-- ==== Sys2Proof/Word.lean ====
section
/-! DEFINITION. The values the block's ports carry: bytes, codes, texts, frames, houses, units, kinds, Commands and the
names of the error results (00_scope.md R10, R12; 10_state.md R25, R27; 60_exceptions.md R135). -/

namespace Sys2Proof

/-- A byte, 0..0xFF (00_scope.md R10). -/
abbrev Byte := BitVec 8

/-- A 16-bit code, 0..0xFFFF (00_scope.md R10): a unit code or a command code. -/
abbrev Code := BitVec 16

/-- A text, character 0 first (00_scope.md R12, 20_memory.md R39). -/
abbrev Text := List Char

/-- A frame, byte 0 first on the wire (00_scope.md R12, 20_memory.md R36). -/
abbrev Frame := List Byte

/-- A house letter, `a` as 0 up to `p` as 15 (00_scope.md R8, 10_state.md R25). -/
abbrev House := Fin 16

/-- An entry of the unit table: entry 0 is unit 1, entry 15 unit 16 (10_state.md R21). -/
abbrev UnitEntry := Fin 16

/-- The eight command kinds, in the order the reverse lookup scans them (00_scope.md R8, 40_code_tables.md R75). -/
inductive Kind where
  | on | off | dim | bright | up | down | left | right
deriving DecidableEq, Repr

/-- A Command `{kind, house, unit}`; the unit is a natural number (10_state.md R25). -/
structure Command where
  kind : Kind
  house : House
  unit : Nat
deriving DecidableEq, Repr

/-- The validation errors of the line parser and the encoder (60_exceptions.md R134, R135). -/
inductive ValidationError where
  | tooShort | tooLong | invalidCommandSymbol | invalidHouseLetter | invalidDigit | missingUnit | invalidUnit
deriving DecidableEq, Repr

/-- Why a frame is silently ignored (42_decoder.md R89, R91; 30_encoding.md R65). -/
inductive IgnoreReason where
  | unknownPrefix | shortFrame
deriving DecidableEq, Repr

end Sys2Proof
end

