-- ==== Sys2Proof/Config.lean ====
section
/-! DEFINITION. The fixed parameters (00_scope.md R8), the types of the open parameters (R9), and the reference profile
`REF` (40_code_tables.md R81), which is a test fixture and no part of the block. -/

namespace Sys2Proof

/-- NORMAL_PREFIX (R8). -/
def Config.normalPrefix : Byte := 0x20

/-- PANTILT_PREFIX (R8). -/
def Config.panTiltPrefix : Byte := 0x14

/-- NORMAL_FRAME_LEN (R8). -/
def Config.normalFrameLen : Nat := 5

/-- PANTILT_FRAME_LEN (R8). -/
def Config.panTiltFrameLen : Nat := 4

/-- MAX_FRAME_LEN (R8). -/
def Config.maxFrameLen : Nat := 5

/-- MAX_TEXT_LEN (R8). -/
def Config.maxTextLen : Nat := 5

/-- DEBOUNCE_WINDOW_MS (R8). -/
def Config.debounceWindowMs : Nat := 600

/-- PANTILT_MASK (R8). -/
def Config.panTiltMask : Code := 0xFF

/-- The default of TICKS_PER_MS (R9, R118). -/
def Config.defaultTicksPerMs : Nat := 1000

/-- One row of a UNIT_DECODE function: a code whose bits under `mask` equal `value` decodes to table entry `entry`
(unit `entry + 1`). DESIGN CHOICE, safe: the function is held as rows so that State is plain data (log 4). -/
structure UnitRow where
  mask : Code
  value : Code
  entry : UnitEntry
deriving DecidableEq, Repr

/-- PROFILE: the five code tables (00_scope.md R9, 10_state.md R21). The widths of A2, A3, A5 and A6 are the entries'
types; `camCode` lists the entry keyed by HOUSE_CODE(l) at letter l (DESIGN CHOICE, safe, log 2 and log 3). -/
structure Profile where
  houseCode : Vector Byte 16
  unitCode : Vector Code 16
  cmdCode : Vector Code 8
  camCode : Vector Byte 16
  unitDecode : List UnitRow
deriving DecidableEq, Repr

/-- The open parameters of 00_scope.md R9: the profile, UNIT0_CODE and TICKS_PER_MS. -/
structure Params where
  profile : Profile
  unit0Code : Code
  ticksPerMs : Nat
deriving DecidableEq, Repr

/-- The house codes of `REF` (R81), letters a to p. -/
def Profile.refHouseCodes : Vector Byte 16 :=
  #v[0x60, 0x70, 0x40, 0x50, 0x80, 0x90, 0xA0, 0xB0, 0xE0, 0xF0, 0xC0, 0xD0, 0x00, 0x10, 0x20, 0x30]

/-- The unit codes of `REF` (R81), units 1 to 16. -/
def Profile.refUnitCodes : Vector Code 16 :=
  #v[0x0000, 0x0010, 0x0008, 0x0018, 0x0040, 0x0050, 0x0048, 0x0058,
     0x0400, 0x0410, 0x0408, 0x0418, 0x0440, 0x0450, 0x0448, 0x0458]

/-- The reference profile `REF` of 40_code_tables.md R81, for test vectors only. Its UNIT_DECODE_GK,
`1 + 8*c[10] + 4*c[6] + 2*c[3] + c[4]`, is one row for each of the sixteen values of those four bits. -/
def Profile.ref : Profile where
  houseCode := Profile.refHouseCodes
  unitCode := Profile.refUnitCodes
  cmdCode := #v[0x0000, 0x0020, 0x0098, 0x0088, 0x0F01, 0x0F02, 0x0F03, 0x0F04]
  camCode := Profile.refHouseCodes
  unitDecode := (List.finRange 16).map (fun n => ⟨0x0458, Profile.refUnitCodes[n], n⟩)

/-- The parameters the spec's test vectors use: `REF`, UNIT0_CODE = UNIT_CODE(1), TICKS_PER_MS = 1000
(95_test_vectors.md). -/
def Params.ref : Params := ⟨Profile.ref, Profile.ref.unitCode[0], Config.defaultTicksPerMs⟩

end Sys2Proof
end

