-- ==== Sys2Proof/Syntax.lean ====
section
/-! DEFINITION. The eight commands of spec/opcode_table.json, one constructor a row (45_commands.md R126 to R133). -/

namespace Sys2Proof

/-- One command with its operands: the house letter and the unit. A pan/tilt command carries the unit its line gave,
which is "not meaningful" (10_state.md R26, 43_line_parser.md R110). -/
inductive Instr where
  | on (house : House) (unit : Nat)
  | off (house : House) (unit : Nat)
  | dim (house : House) (unit : Nat)
  | bright (house : House) (unit : Nat)
  | up (house : House) (unit : Nat)
  | down (house : House) (unit : Nat)
  | left (house : House) (unit : Nat)
  | right (house : House) (unit : Nat)
deriving DecidableEq, Repr

/-- The Command triple an instruction stands for (10_state.md R25). -/
def Instr.command : Instr → Command
  | .on h u => ⟨.on, h, u⟩
  | .off h u => ⟨.off, h, u⟩
  | .dim h u => ⟨.dim, h, u⟩
  | .bright h u => ⟨.bright, h, u⟩
  | .up h u => ⟨.up, h, u⟩
  | .down h u => ⟨.down, h, u⟩
  | .left h u => ⟨.left, h, u⟩
  | .right h u => ⟨.right, h, u⟩

/-- The instruction of a Command triple. -/
def Command.instr (c : Command) : Instr :=
  match c.kind with
  | .on => .on c.house c.unit
  | .off => .off c.house c.unit
  | .dim => .dim c.house c.unit
  | .bright => .bright c.house c.unit
  | .up => .up c.house c.unit
  | .down => .down c.house c.unit
  | .left => .left c.house c.unit
  | .right => .right c.house c.unit

end Sys2Proof
end

