-- ==== Sys2Proof/WellFormed.lean ====
section
/-! DEFINITION. Which Commands are valid: the unit range of each kind (10_state.md R26). The house and the kind are valid
by their types. -/

namespace Sys2Proof

/-- The pan/tilt family UP, DOWN, LEFT, RIGHT (00_scope.md, glossary). -/
def Kind.isPanTilt : Kind → Bool
  | .on | .off | .dim | .bright => false
  | .up | .down | .left | .right => true

/-- The unit ranges of 10_state.md R26 (and of `checkUnit`, 43_line_parser.md R109): 1..16 for ON and OFF, 0..16 for DIM
and BRIGHT, anything for the pan/tilt kinds. -/
def unitInRange : Kind → Nat → Bool
  | .on, u | .off, u => decide (1 ≤ u) && decide (u ≤ 16)
  | .dim, u | .bright, u => decide (u ≤ 16)
  | .up, _ | .down, _ | .left, _ | .right, _ => true

/-- A valid Command (R26). -/
def Command.wellFormed (c : Command) : Bool := unitInRange c.kind c.unit

/-- A well-formed instruction: one whose Command is valid. -/
def Instr.wellFormed (i : Instr) : Bool := i.command.wellFormed

/-- Equality of Commands as 10_state.md R26 defines it: for the pan/tilt kinds the unit does not count. -/
def Command.same (c d : Command) : Bool :=
  decide (c.kind = d.kind) && decide (c.house = d.house) && (c.kind.isPanTilt || decide (c.unit = d.unit))

end Sys2Proof
end

