-- ==== Sys2Proof/Machine/Tables.lean ====
section
/-! DEFINITION. The code tables and their lookups (40_code_tables.md R70 to R80), and when a profile is admissible or
conforming (10_state.md R22, R23). -/

namespace Sys2Proof

/-- `not8(b)`, the byte complement (00_scope.md R11). -/
def not8 (b : Byte) : Byte := b ^^^ 0xFF

/-- `clr(x, M)`, the bits of `x` that are not set in `M` (00_scope.md R11). -/
def clr (x m : Code) : Code := x &&& ~~~m

/-- The place of a kind in CMD_CODE. -/
def Kind.index : Kind → Fin 8
  | .on => 0 | .off => 1 | .dim => 2 | .bright => 3 | .up => 4 | .down => 5 | .left => 6 | .right => 7

/-- The kinds in the order of 40_code_tables.md R75. -/
def Kind.all : List Kind := [.on, .off, .dim, .bright, .up, .down, .left, .right]

/-- `houseLetterToCode(l)`, that is HOUSE_CODE(l) (R70). -/
def Profile.house (p : Profile) (l : House) : Byte := p.houseCode[l]

/-- `unitNumberToCode`, by table entry: entry 0 is UNIT_CODE(1) (R72). -/
def Profile.unit (p : Profile) (n : UnitEntry) : Code := p.unitCode[n]

/-- `commandNameToCode(k)`, that is CMD_CODE(k) (R74). -/
def Profile.cmd (p : Profile) (k : Kind) : Code := p.cmdCode[k.index]

/-- OFF_CODE = CMD_CODE(OFF) (00_scope.md R9). -/
def Profile.offCode (p : Profile) : Code := p.cmd .off

/-- `camContribution(HOUSE_CODE(l))` (R78), the only argument it is ever called with. -/
def Profile.cam (p : Profile) (l : House) : Byte := p.camCode[l]

/-- `codeToHouseLetter(c)`: the first letter whose code is `c`, or UnrecognizedCode as `none` (R71). -/
def Profile.codeToHouse (p : Profile) (c : Byte) : Option House :=
  (List.finRange 16).find? (fun l => p.house l == c)

/-- UNIT_DECODE given by rows: the first row that matches, or failure. -/
def decodeUnitRows : List UnitRow → Code → Option UnitEntry
  | [], _ => none
  | r :: rows, c => if c &&& r.mask = r.value then some r.entry else decodeUnitRows rows c

/-- `codeToUnitNumber(c)`: UNIT_DECODE, or UnrecognizedCode as `none` (R73). Above 0x0FFF, where A7 defines no value, it is
whatever the profile's rows give (DESIGN CHOICE, safe: every profile is covered, log 4). -/
def Profile.codeToUnit (p : Profile) (c : Code) : Option UnitEntry := decodeUnitRows p.unitDecode c

/-- `codeToCommandName(c)`: the first kind whose whole code is `c`, or UnrecognizedCode as `none` (R75). -/
def Profile.codeToKind (p : Profile) (c : Code) : Option Kind := Kind.all.find? (fun k => p.cmd k == c)

/-- `isPanTiltCode(c)`: a bit is set outside the low byte (R76). -/
def isPanTiltCode (c : Code) : Bool := clr c Config.panTiltMask != 0

/-- `kindToSymbol(k)` (30_encoding.md R61, R79). -/
def kindToSymbol : Kind → Char
  | .on => '+' | .off => '-' | .dim => 's' | .bright => 'b'
  | .up => 'u' | .down => 'd' | .left => 'l' | .right => 'r'

/-- `symbolToKind(ch)`, exact and case-sensitive (R79). -/
def symbolToKind (ch : Char) : Option Kind := Kind.all.find? (fun k => kindToSymbol k == ch)

/-- The lowercase character of a house letter. -/
def houseChar (l : House) : Char := Char.ofNat (97 + l.val)

/-- The uppercase character of a house letter. -/
def houseCharUpper (l : House) : Char := Char.ofNat (65 + l.val)

/-- `letterFromChar(ch)`: `a`..`p`, and `A`..`P` folded to lower case (R80). -/
def letterFromChar (ch : Char) : Option House :=
  (List.finRange 16).find? (fun l => ch == houseChar l || ch == houseCharUpper l)

/-- The unit number 1..16 of a table entry. -/
def unitNumber (n : UnitEntry) : Nat := n.val + 1

/-- A1: the three forward tables are injective (10_state.md R22). -/
abbrev Profile.Injective (p : Profile) : Prop :=
  (∀ l m : House, p.house l = p.house m → l = m) ∧
  (∀ n m : UnitEntry, p.unit n = p.unit m → n = m) ∧
  (∀ k ∈ Kind.all, ∀ j ∈ Kind.all, p.cmd k = p.cmd j → k = j)

/-- A4: exactly the four pan/tilt codes have a bit above the low byte (R22). -/
abbrev Profile.Classified (p : Profile) : Prop := ∀ k ∈ Kind.all, isPanTiltCode (p.cmd k) = k.isPanTilt

/-- An admissible profile (R22). A2, A3, A5, A6 and A7 hold by the types of the tables. -/
abbrev Profile.Admissible (p : Profile) : Prop := p.Injective ∧ p.Classified

/-- Whether the codes of a list are pairwise different. -/
def allDistinct {w : Nat} : List (BitVec w) → Bool
  | [] => true
  | x :: xs => xs.all (fun y => x != y) && allDistinct xs

/-- The check a model makes of a profile before it uses it; it answers `true` exactly on the admissible ones
(`admissible_iff`, R22). -/
def Profile.admissible (p : Profile) : Bool :=
  allDistinct p.houseCode.toList && allDistinct p.unitCode.toList && allDistinct p.cmdCode.toList &&
    Kind.all.all (fun k => isPanTiltCode (p.cmd k) == k.isPanTilt)

/-- RT1 for one letter (R23). -/
abbrev Profile.RT1 (p : Profile) (l : House) : Prop := p.house l &&& 0x0F = 0

/-- RT2 for one unit (R23). -/
abbrev Profile.RT2 (p : Profile) (n : UnitEntry) : Prop := p.unit n >>> 8 ≤ 0x0F

/-- RT3 for one unit (R23). -/
abbrev Profile.RT3 (p : Profile) (n : UnitEntry) : Prop := (p.unit n &&& 0xFF) &&& p.offCode = 0

/-- RT4 for one normal kind (R23). -/
abbrev Profile.RT4 (p : Profile) (k : Kind) : Prop := clr (p.cmd k) p.offCode = 0

/-- RT5 for one unit (R23). -/
abbrev Profile.RT5 (p : Profile) (n : UnitEntry) : Prop := p.codeToUnit (p.unit n) = some n

/-- RT6 for one pan/tilt kind (R23). -/
abbrev Profile.RT6 (p : Profile) (k : Kind) : Prop := p.cmd k ≤ 0x0FFF

/-- RT7 for one house and one pan/tilt kind (R23). -/
abbrev Profile.RT7 (p : Profile) (l : House) (k : Kind) : Prop :=
  clr ((p.cam l).setWidth 16 &&& 0x0F) (p.cmd k >>> 8) = 0

/-- A conforming profile: admissible, and RT1 to RT7 everywhere (R23). -/
abbrev Profile.Conforming (p : Profile) : Prop :=
  p.Admissible ∧
  (∀ l : House, p.RT1 l) ∧
  (∀ n : UnitEntry, p.RT2 n ∧ p.RT3 n ∧ p.RT5 n) ∧
  (∀ k ∈ Kind.all, k.isPanTilt = false → p.RT4 k) ∧
  (∀ k ∈ Kind.all, k.isPanTilt = true → p.RT6 k) ∧
  (∀ l : House, ∀ k ∈ Kind.all, k.isPanTilt = true → p.RT7 l k)

end Sys2Proof
end

