-- ==== Sys2Proof/Decode.lean ====
section
/-! DEFINITION. The frame decoder (42_decoder.md R89 to R98) and after it the frame encoder (41_encoder.md R82 to R85),
with the field formulas of 30_encoding.md R50 to R59. -/

namespace Sys2Proof

/-- The results of port DECODE (10_state.md R17, R89); `tooLong` marks an input outside the port's contract (R93). -/
inductive DecodeResult where
  | decoded (i : Instr)
  | idle
  | ignored (why : IgnoreReason)
  | unrecognizedCode
  | tooLong
deriving DecidableEq, Repr

/-- All three reverse lookups or UnrecognizedCode (R94, R95, R97). -/
def lookupCommand (p : Profile) (houseCode : Byte) (unitCode cmdCode : Code) : DecodeResult :=
  match p.codeToHouse houseCode, p.codeToUnit unitCode, p.codeToKind cmdCode with
  | some house, some unit, some kind => .decoded (Command.instr ⟨kind, house, unitNumber unit⟩)
  | _, _, _ => .unrecognizedCode

/-- The 12-bit unit code of a normal frame's bytes `b1` and `b3` (30_encoding.md R58). -/
def normalUnitCode (p : Profile) (b1 b3 : Byte) : Code :=
  ((b1 &&& 0x0F).setWidth 16 <<< 8) ||| clr (b3.setWidth 16) p.offCode

/-- The house code of a normal frame's byte `b1` (R58). -/
def normalHouseCode (b1 : Byte) : Byte := b1 &&& 0xF0

/-- The command code of a normal frame's byte `b3` (R58). -/
def normalCmdCode (p : Profile) (b3 : Byte) : Code := b3.setWidth 16 &&& p.offCode

/-- The 12-bit command code of a pan/tilt frame's bytes `b1` and `b2` (R59). -/
def panTiltCmdCode (b1 b2 : Byte) : Code := ((b1 &&& 0x0F).setWidth 16 <<< 8) ||| b2.setWidth 16

/-- `decodeNormal(g)` with `g = [b1, b2, b3, b4]`; `b2` and `b4` are not read (R94, R96). -/
def decodeNormal (p : Profile) (b1 b3 : Byte) : DecodeResult :=
  lookupCommand p (normalHouseCode b1) (normalUnitCode p b1 b3) (normalCmdCode p b3)

/-- `decodePanTilt(g)` with `g = [b1, b2, b3]`; the unit code is the table's entry 0 (R95). -/
def decodePanTilt (p : Profile) (b1 b2 b3 : Byte) : DecodeResult :=
  lookupCommand p b3 (p.unit 0) (panTiltCmdCode b1 b2)

/-- `decode(f)`: first-byte dispatch (R89), with the length rules R90 to R93. -/
def decode (p : Profile) (f : Frame) : DecodeResult :=
  if f.length > Config.maxFrameLen then .tooLong
  else match f with
    | [] => .idle
    | prefixByte :: g =>
      if prefixByte = Config.normalPrefix then
        match g with
        | b1 :: _ :: b3 :: _ :: _ => decodeNormal p b1 b3
        | _ => .ignored .shortFrame
      else if prefixByte = Config.panTiltPrefix then
        match g with
        | b1 :: b2 :: b3 :: _ => decodePanTilt p b1 b2 b3
        | _ => .ignored .shortFrame
      else .ignored .unknownPrefix

/-- The bytes of an `n`-byte word, most significant byte first. -/
def wordBytes : Nat → Nat → Frame
  | 0, _ => []
  | n + 1, w => wordBytes n (w / 256) ++ [BitVec.ofNat 8 w]

/-- The frame whose bits are `w`, numbered as spec/opcode_table.json numbers them: byte 0 is the most significant byte of
the `nbits` bits. A frame shorter than its prefix asks for is filled with zero bytes (log 17). -/
def frameOfWord (nbits w : Nat) : Frame :=
  let f := wordBytes (nbits / 8) w
  let full := if f.head? = some Config.normalPrefix then Config.normalFrameLen else Config.panTiltFrameLen
  f ++ List.replicate (full - f.length) 0

/-- The instruction the decoder reads from a word of the opcode table, under the spec's reference profile `REF`, since the
table's code bits are parameters (30_encoding.md R63; DESIGN CHOICE, safe, log 17). -/
def decodeTableWord (nbits w : Nat) : Option Instr :=
  match decode Profile.ref (frameOfWord nbits w) with
  | .decoded i => some i
  | _ => none

/-- The results of port ENCODE (10_state.md R16). -/
inductive EncodeResult where
  | ok (f : Frame)
  | err (e : ValidationError)
deriving DecidableEq, Repr

/-- `unitCodeFor(kind, unit)`, `none` standing for InvalidUnit (R83). -/
def unitCodeFor (q : Params) (k : Kind) (unit : Nat) : Option Code :=
  if h : 1 ≤ unit ∧ unit ≤ 16 then some (q.profile.unit ⟨unit - 1, by omega⟩)
  else if unit = 0 ∧ (k = .dim ∨ k = .bright) then some q.unit0Code
  else none

/-- `encodeNormal(uc, hc, cc)` (R84); `cc` is a normal code, so its low byte is all of it. -/
def encodeNormal (uc : Code) (hc : Byte) (cc : Code) : Frame :=
  let b1 := (uc >>> 8).setWidth 8 ||| hc
  let b3 := (uc &&& 0xFF).setWidth 8 ||| cc.setWidth 8
  [Config.normalPrefix, b1, not8 b1, b3, not8 b3]

/-- `encodePanTilt(cc, hc)` (R85), given the cam contribution of `hc`. -/
def encodePanTilt (cc : Code) (hc cam : Byte) : Frame :=
  [Config.panTiltPrefix, (cc >>> 8).setWidth 8 ||| cam, (cc &&& 0xFF).setWidth 8, hc]

/-- `encode(cmd)`: the code chooses the shape, and only a normal frame's unit is looked up (R82). -/
def encode (q : Params) (c : Command) : EncodeResult :=
  let hc := q.profile.house c.house
  let cc := q.profile.cmd c.kind
  if isPanTiltCode cc then .ok (encodePanTilt cc hc (q.profile.cam c.house))
  else match unitCodeFor q c.kind c.unit with
    | some uc => .ok (encodeNormal uc hc cc)
    | none => .err .invalidUnit

end Sys2Proof
end

