-- ==== Sys2Proof/Machine/Operands.lean ====
section
/-! DEFINITION. Command text: the line parser (43_line_parser.md R100 to R112) and the text renderer `format`
(41_encoder.md R87). -/

namespace Sys2Proof

/-- The results of port PARSE (10_state.md R16). -/
inductive ParseResult where
  | ok (c : Command)
  | noOp
  | err (e : ValidationError)
deriving DecidableEq, Repr

/-- An ASCII digit `0`..`9` (R106). -/
def isAsciiDigit (ch : Char) : Bool := decide (48 ≤ ch.toNat) && decide (ch.toNat ≤ 57)

/-- `d(ch) = ch - '0'` (R108). -/
def digitValue (ch : Char) : Nat := ch.toNat - 48

/-- `unitValue`, from at most the first two digits (R108). -/
def unitValue : Text → Nat
  | [] => 0
  | [d1] => digitValue d1
  | d1 :: d0 :: _ => digitValue d1 * 10 + digitValue d0

/-- Whether a kind needs a unit on its line (R107). -/
def needsUnit : Kind → Bool
  | .on | .off => true
  | .dim | .bright | .up | .down | .left | .right => false

/-- The checks on the characters after the house letter, in the order of R100: digits, a missing unit, the range. -/
def parseUnit (k : Kind) (h : House) (ds : Text) : ParseResult :=
  if ds.all isAsciiDigit = false then .err .invalidDigit
  else if ds = [] ∧ needsUnit k then .err .missingUnit
  else if unitInRange k (unitValue ds) then .ok ⟨k, h, unitValue ds⟩
  else .err .invalidUnit

/-- `parse(line)`; the first failing check decides (R100 to R111). -/
def parse (line : Text) : ParseResult :=
  match line with
  | [] => .noOp
  | [_] => .err .tooShort
  | c0 :: c1 :: ds =>
    if line.length > Config.maxTextLen then .err .tooLong
    else match symbolToKind c0 with
      | none => .err .invalidCommandSymbol
      | some k => match letterFromChar c1 with
        | none => .err .invalidHouseLetter
        | some h => parseUnit k h ds

/-- `format(cmd)`, the canonical text (R87). -/
def format (p : Profile) (c : Command) : Text :=
  kindToSymbol c.kind :: houseChar c.house ::
    (if isPanTiltCode (p.cmd c.kind) then [] else Nat.toDigits 10 c.unit)

end Sys2Proof
end

