-- ==== Sys2Proof/Config/Reset.lean ====
section
/-! DEFINITION. The values the spec leaves to the implementation at reset: constants with no body, so that no proof can
see what they are (10_state.md R21, R30; 92_eei_decisions.md D2, D18). -/

namespace Sys2Proof

/-- A profile a device may have: admissible (10_state.md R22), and with the bits the source's `+a1` example shows (R24).
Read strictly, byte 1 of that frame contains the bits 0x60; if the profile is conforming, HOUSE_CODE(a) is 0x60.
UNIT_DECODE maps UNIT_CODE(1) to unit 1, which the source fixes of the function (40_code_tables.md R73).
The default only shows that there is such a profile; nothing else rests on it. -/
structure DeviceProfile where
  profile : Profile := Profile.ref
  admissible : profile.Admissible := by decide
  exampleBits : ((profile.unit 0 >>> 8).setWidth 8 ||| profile.house 0) &&& 0x60 = 0x60 := by decide
  houseA : profile.Conforming → profile.house 0 = 0x60 := by intro _; decide
  unitOne : profile.codeToUnit (profile.unit 0) = some 0 := by decide
deriving Inhabited

/-- The device's PROFILE: of it nothing is known but what `DeviceProfile` says (R9, R21, R147; DESIGN CHOICE, safe,
log 1). -/
opaque Config.profile : DeviceProfile

/-- `lastTimestamp` after reset: "any value" (R30, R147; DESIGN CHOICE, safe, log 5). -/
opaque Config.resetTimestamp : Int

end Sys2Proof
end

