-- ==== Sys2Proof/Machine/State.lean ====
section
/-! DEFINITION. The state of the block (10_state.md R33, 70_reset_and_hazards.md R147), the environment's pending inputs
and recorded outputs, the reasons to stop, and the state after reset. -/

namespace Sys2Proof.Machine

/-- The two agents (10_state.md R15, 60_exceptions.md R144). -/
inductive Agent where
  | outbound | inbound
deriving DecidableEq, Repr

/-- The transport's answer to one write (60_exceptions.md R137, R145). -/
inductive WriteAnswer where
  | accepted | transportError
deriving DecidableEq, Repr

/-- What the line input stream delivers (43_line_parser.md R113): a line, with the answer the transport gives if the line
leads to a write, or its end. -/
inductive LineInput where
  | line (text : Text) (answer : WriteAnswer)
  | endOfStream
deriving DecidableEq, Repr

/-- A read result (10_state.md R17). -/
inductive ReadResult where
  | data (f : Frame)
  | timeout
  | fail
deriving DecidableEq, Repr

/-- One inbound read with the time at which its event is handled (44_debounce.md R114, R119). -/
structure ReadInput where
  result : ReadResult
  now : Int
deriving DecidableEq, Repr

/-- Whose turn it is: an agent's, or one of the environment's own moves (R145): the initialisation frames are sent (R150),
the shutdown flag is set, with or without a read still in flight (R156), the process restarts (R148). -/
inductive Turn where
  | outbound
  | inbound
  | initFrames
  | shutdown (readInFlight : Bool)
  | restart
deriving DecidableEq, Repr

/-- DebounceState (R28). -/
structure DebounceState where
  lastText : Text
  lastTimestamp : Int
deriving DecidableEq, Repr

/-- The result of an outbound transaction: the frame was written, the line was empty (R101), the line or Command was
rejected (R113), the write failed (R137), or the stream ended (R113). An error records its name and nothing else (R135). -/
inductive OutboundResult where
  | sent (f : Frame)
  | noOp
  | rejected (e : ValidationError)
  | writeFailed
  | ended
deriving DecidableEq, Repr

/-- The outcomes of INBOUND (R114). -/
inductive InboundOutcome where
  | idle
  | ignored (why : IgnoreReason)
  | unrecognizedCode
  | emit (text : Text)
  | suppress
  | halted
deriving DecidableEq, Repr

/-- The outcomes of DEBOUNCE (R115). -/
inductive DebounceOutcome where
  | emit (text : Text)
  | suppress
deriving DecidableEq, Repr

/-- The block, what the environment has yet to give it, and what it has given the environment. -/
structure State where
  /-- The code tables and the other parameters, read only (R21, R33, R9). -/
  params : Params
  /-- DebounceState (R28, R33). -/
  debounce : DebounceState
  /-- The inbound agent's running bit (R33, R114). -/
  inboundRunning : Bool
  /-- The outbound agent runs (R147, R113, R137). -/
  outboundRunning : Bool
  /-- The device-initialisation frames have been sent (R150). -/
  initSent : Bool
  /-- The process-wide shutdown flag, which the inbound agent polls (R124, R140). -/
  shutdownFlag : Bool
  /-- The read that was in flight when the flag was set has not been answered yet (R156). -/
  readInFlight : Bool
  /-- The agent whose transaction is in progress (model's own, log 9). -/
  agent : Agent
  /-- The time operand of the inbound transaction in progress (R119; model's own latch, log 9). -/
  now : Int
  /-- The transport's answer to the outbound transaction in progress (R145; model's own latch, log 9). -/
  writeAnswer : WriteAnswer
  /-- The turns to come, oldest first (R45; log 8). -/
  schedule : List Turn
  /-- The line input stream (R113, R145; log 8). -/
  lines : List LineInput
  /-- The read results to come (R145; log 8). -/
  reads : List ReadInput
  /-- The frames the transport has accepted, oldest first (R46, R86; log 16). -/
  framesOut : List Frame
  /-- The lines written to the line output stream, oldest first (R121; log 16). -/
  linesOut : List Text
  /-- The errors reported to the caller of the line parser, oldest first (R113; log 16). -/
  reports : List ValidationError
  /-- The result of the outbound agent's last transaction, if it has made one (R16; log 16). -/
  outResult : Option OutboundResult
  /-- The outcome of the last INBOUND, if there was one (R17; log 16). -/
  inResult : Option InboundOutcome
deriving DecidableEq, Repr

/-- The block's errors are result values, not faults (60_exceptions.md R134, R136). -/
inductive Fault where
  /-- Raised by `step` when it is an agent's turn and both agents have stopped: neither has a further step
  (R113, R124, R137; 93_implementation_defined.md I10, I15). Safe: the machine stops. -/
  | allAgentsStopped
deriving DecidableEq, Repr

/-- What the model gives no meaning to. -/
inductive Refusal where
  /-- An instruction without a meaning yet; no arm uses it. Safe. -/
  | notModelled (mnemonic : String)
  /-- Raised by `step` on a profile that is not admissible (10_state.md R22; I18). Safe: "a model refuses". -/
  | inadmissibleProfile
  /-- Raised by `step` when TICKS_PER_MS is 0; it is a positive integer (00_scope.md R9). Safe. -/
  | nonPositiveTickRate
  /-- Raised by an inbound read of more than MAX_FRAME_LEN bytes (42_decoder.md R93; I19). Safe: "a model refuses". -/
  | frameTooLong
  /-- Raised by an inbound read before the initialisation frames, and by a shutdown that names such a read as in flight
  (70_reset_and_hazards.md R150, R151; I11). Safe: "a model says nothing of such a run". -/
  | readBeforeInit
deriving DecidableEq, Repr

/-- The block right after process start (R147) with parameters `q` and a `lastTimestamp` of `t`; nothing is pending and
nothing has been output. `agent`, `now` and `writeAnswer` are latches a transaction fills in before it reads them
(DESIGN CHOICE, unsafe, log 9). -/
def State.boot (q : Params) (t : Int) : State where
  params := q
  debounce := ⟨[], t⟩
  inboundRunning := true
  outboundRunning := true
  initSent := false
  shutdownFlag := false
  readInFlight := false
  agent := .outbound
  now := 0
  writeAnswer := .accepted
  schedule := []
  lines := []
  reads := []
  framesOut := []
  linesOut := []
  reports := []
  outResult := none
  inResult := none

/-- The parameters after reset: an arbitrary admissible profile, UNIT0_CODE = UNIT_CODE(1) and TICKS_PER_MS = 1000, the
spec's defaults (R9; log 1, log 6, log 7). -/
def Params.reset : Params :=
  ⟨Config.profile.profile, Config.profile.profile.unit 0, Config.defaultTicksPerMs⟩

/-- The machine right after reset (R147). -/
def State.reset : State := State.boot Params.reset Config.resetTimestamp

end Sys2Proof.Machine
end

