-- ==== Sys2Proof/Machine/Flags.lean ====
section
/-! DEFINITION. The block has no condition flags; its status is the result variant each port returns, numbered 0 to 14
(10_state.md R32, 60_exceptions.md R135). -/

namespace Sys2Proof.Machine

/-- The status variants (R32). -/
inductive Status where
  | ok | noOp | tooShort | tooLong | invalidCommandSymbol | invalidHouseLetter | invalidDigit | missingUnit
  | invalidUnit | unrecognizedCode | ignoredUnknownPrefix | ignoredShortFrame | idle | suppress | halted
deriving DecidableEq, Repr

/-- The 4-bit status code (R32). -/
def Status.code : Status → BitVec 4
  | .ok => 0 | .noOp => 1 | .tooShort => 2 | .tooLong => 3 | .invalidCommandSymbol => 4 | .invalidHouseLetter => 5
  | .invalidDigit => 6 | .missingUnit => 7 | .invalidUnit => 8 | .unrecognizedCode => 9
  | .ignoredUnknownPrefix => 10 | .ignoredShortFrame => 11 | .idle => 12 | .suppress => 13 | .halted => 14

/-- The status of a validation error (R135). -/
def statusOfError : ValidationError → Status
  | .tooShort => .tooShort | .tooLong => .tooLong | .invalidCommandSymbol => .invalidCommandSymbol
  | .invalidHouseLetter => .invalidHouseLetter | .invalidDigit => .invalidDigit | .missingUnit => .missingUnit
  | .invalidUnit => .invalidUnit

/-- The status of an ignored frame (R135). -/
def statusOfIgnored : IgnoreReason → Status
  | .unknownPrefix => .ignoredUnknownPrefix
  | .shortFrame => .ignoredShortFrame

/-- The status port PARSE returns. -/
def statusOfParse : ParseResult → Status
  | .ok _ => .ok
  | .noOp => .noOp
  | .err e => statusOfError e

/-- The status port ENCODE returns. -/
def statusOfEncode : EncodeResult → Status
  | .ok _ => .ok
  | .err e => statusOfError e

/-- The status port DECODE returns; a frame outside its contract has none (R93). -/
def statusOfDecode : DecodeResult → Option Status
  | .decoded _ => some .ok
  | .idle => some .idle
  | .ignored why => some (statusOfIgnored why)
  | .unrecognizedCode => some .unrecognizedCode
  | .tooLong => none

/-- The status port DEBOUNCE returns. -/
def statusOfDebounce : DebounceOutcome → Status
  | .emit _ => .ok
  | .suppress => .suppress

/-- The status of INBOUND's outcome. -/
def statusOfInbound : InboundOutcome → Status
  | .idle => .idle
  | .ignored why => statusOfIgnored why
  | .unrecognizedCode => .unrecognizedCode
  | .emit _ => .ok
  | .suppress => .suppress
  | .halted => .halted

/-- The status of an outbound transaction; a failed write and the end of the stream have no number (R135). -/
def statusOfOutbound : OutboundResult → Option Status
  | .sent _ => some .ok
  | .noOp => some .noOp
  | .rejected e => some (statusOfError e)
  | .writeFailed => none
  | .ended => none

end Sys2Proof.Machine
end

