-- ==== Sys2Proof/Machine/Ops.lean ====
section
/-! DEFINITION. The named operations on the state, and the shared operation behind every command. The block has no traps:
the one thing an error does is `State.reject` (60_exceptions.md R134, R136, R141). -/

namespace Sys2Proof.Machine

/-- The outcome of one step of this machine. -/
abbrev Result := Host.Outcome State Fault Refusal

/-- FRAME_OUT with the frame accepted (41_encoder.md R86, 20_memory.md R46). -/
def State.writeFrame (s : State) (f : Frame) : State :=
  { s with framesOut := s.framesOut ++ [f], outResult := some (.sent f) }

/-- FRAME_OUT with a TransportError: nothing is retried and the outbound agent stops (60_exceptions.md R137). -/
def State.failWrite (s : State) : State :=
  { s with outboundRunning := false, outResult := some .writeFailed }

/-- FRAME_OUT: one transport write of the whole frame, with the answer of the transaction in progress (R86). -/
def State.frameOut (s : State) (f : Frame) : State :=
  match s.writeAnswer with
  | .accepted => s.writeFrame f
  | .transportError => s.failWrite

/-- An error of PARSE or ENCODE: reported to the caller, the line dropped (43_line_parser.md R113, R134). -/
def State.reject (s : State) (e : ValidationError) : State :=
  { s with reports := s.reports ++ [e], outResult := some (.rejected e) }

/-- LINE_OUT: the text and a newline, flushed at once (44_debounce.md R121). -/
def State.lineOut (s : State) (t : Text) : State := { s with linesOut := s.linesOut ++ [t ++ ['\n']] }

/-- Record the outcome of INBOUND (R114). -/
def State.finishInbound (s : State) (o : InboundOutcome) : State := { s with inResult := some o }

/-- Replace DebounceState; only an emission does (R117, 10_state.md R29). -/
def State.setDebounce (s : State) (d : DebounceState) : State := { s with debounce := d }

/-- WINDOW, in ticks (44_debounce.md, opening). -/
def window (q : Params) : Int := (Config.debounceWindowMs * q.ticksPerMs : Nat)

/-- DEBOUNCE(curText, now) on DebounceState (R115 to R118): the outcome and the state after. -/
def debounce (w : Int) (d : DebounceState) (curText : Text) (now : Int) : DebounceOutcome × DebounceState :=
  if curText = d.lastText ∧ now - d.lastTimestamp < w then (.suppress, d)
  else (.emit curText, ⟨curText, now⟩)

/-- What the outbound agent does with a Command: ENCODE, then FRAME_OUT (R113, R82, R86). -/
def sendCommand (c : Command) (s : State) : State :=
  match encode s.params c with
  | .ok f => s.frameOut f
  | .err e => s.reject e

/-- What the inbound agent does with a decoded Command: FORMAT, DEBOUNCE and, on an emission, LINE_OUT (R114, R120). -/
def receiveCommand (c : Command) (s : State) : State :=
  match debounce (window s.params) s.debounce (format s.params.profile c) s.now with
  | (.emit t, d) => ((s.setDebounce d).lineOut t).finishInbound (.emit t)
  | (.suppress, _) => s.finishInbound .suppress

/-- A Command carried out by the agent whose transaction is in progress (10_state.md R15). -/
def runCommand (c : Command) (s : State) : Result :=
  match s.agent with
  | .outbound => .next (sendCommand c s)
  | .inbound => .next (receiveCommand c s)

/-- An empty line: nothing happens (R101). -/
def State.skipLine (s : State) : State := { s with outResult := some .noOp }

/-- The end of the line input stream: the outbound agent stops (R113). -/
def State.endLines (s : State) : State := { s with outboundRunning := false, outResult := some .ended }

/-- A failed read: the inbound agent halts (R114, R124). -/
def State.halt (s : State) : State := { s with inboundRunning := false, inResult := some .halted }

/-- The inbound agent sees the shutdown flag and takes no further transaction (R124, R156). -/
def State.exitLoop (s : State) : State := { s with inboundRunning := false }

/-- Take the next turn off the schedule. -/
def State.takeTurn (s : State) (rest : List Turn) : State := { s with schedule := rest }

/-- Start an outbound transaction: a line leaves the stream, with the transport's answer. -/
def State.beginLine (s : State) (rest : List LineInput) (answer : WriteAnswer) : State :=
  { s with lines := rest, agent := .outbound, writeAnswer := answer }

/-- Start an inbound transaction: a read returns, with the time at which it is handled (R119). -/
def State.beginRead (s : State) (rest : List ReadInput) (now : Int) : State :=
  { s with reads := rest, agent := .inbound, now := now, readInFlight := false }

/-- The environment has sent the initialisation frames (R150). -/
def State.sendInit (s : State) : State := { s with initSent := true }

/-- The environment sets the shutdown flag; a read in flight stays in flight (R156). Setting it again changes nothing.
`takeTurn` calls it with a read in flight only after the initialisation frames (R151). -/
def State.requestShutdown (s : State) (inFlight : Bool) : State :=
  if s.shutdownFlag then s else { s with shutdownFlag := true, readInFlight := inFlight }

/-- A restart: the block's state as after reset, whatever it was (R147, R148). The parameters, the environment's inputs and
what has been output are no state of the block that a restart clears (DESIGN CHOICE, unsafe, log 15). -/
def State.restart (s : State) : State :=
  { s with
    debounce := ⟨[], Config.resetTimestamp⟩, inboundRunning := true, outboundRunning := true, initSent := false,
    shutdownFlag := false, readInFlight := false }

/-- What the environment supplies between two steps (R145): turns, lines and read results behind those that wait. -/
def State.supply (s : State) (turns : List Turn) (lines : List LineInput) (reads : List ReadInput) : State :=
  { s with schedule := s.schedule ++ turns, lines := s.lines ++ lines, reads := s.reads ++ reads }

end Sys2Proof.Machine
end

