-- ==== Sys2Proof/Machine/Normal.lean ====
section
/-! DEFINITION. The normal family: ON, OFF, DIM, BRIGHT (45_commands.md R126 to R129). -/

namespace Sys2Proof.Machine

/-- ON (R126). -/
def execOn (h : House) (u : Nat) (s : State) : Result := runCommand ⟨.on, h, u⟩ s

/-- OFF (R127). -/
def execOff (h : House) (u : Nat) (s : State) : Result := runCommand ⟨.off, h, u⟩ s

/-- DIM; unit 0 means no unit was given (R128). -/
def execDim (h : House) (u : Nat) (s : State) : Result := runCommand ⟨.dim, h, u⟩ s

/-- BRIGHT; unit 0 means no unit was given (R129). -/
def execBright (h : House) (u : Nat) (s : State) : Result := runCommand ⟨.bright, h, u⟩ s

end Sys2Proof.Machine
end

