-- ==== Sys2Proof/Machine/PanTilt.lean ====
section
/-! DEFINITION. The pan/tilt family: UP, DOWN, LEFT, RIGHT; the unit is ignored (45_commands.md R130 to R133). -/

namespace Sys2Proof.Machine

/-- UP (R130). -/
def execUp (h : House) (u : Nat) (s : State) : Result := runCommand ⟨.up, h, u⟩ s

/-- DOWN (R131). -/
def execDown (h : House) (u : Nat) (s : State) : Result := runCommand ⟨.down, h, u⟩ s

/-- LEFT (R132). -/
def execLeft (h : House) (u : Nat) (s : State) : Result := runCommand ⟨.left, h, u⟩ s

/-- RIGHT (R133). -/
def execRight (h : House) (u : Nat) (s : State) : Result := runCommand ⟨.right, h, u⟩ s

end Sys2Proof.Machine
end

