-- ==== Sys2Proof/Machine/Dispatch.lean ====
section
/-! DEFINITION. One arm per command. -/

namespace Sys2Proof.Machine

def exec (i : Instr) (s : State) : Host.Outcome State Fault Refusal :=
  match i with
  | .on h u => Sys2Proof.Machine.execOn h u s
  | .off h u => Sys2Proof.Machine.execOff h u s
  | .dim h u => Sys2Proof.Machine.execDim h u s
  | .bright h u => Sys2Proof.Machine.execBright h u s
  | .up h u => Sys2Proof.Machine.execUp h u s
  | .down h u => Sys2Proof.Machine.execDown h u s
  | .left h u => Sys2Proof.Machine.execLeft h u s
  | .right h u => Sys2Proof.Machine.execRight h u s

end Sys2Proof.Machine
end

