-- ==== Sys2Proof/Machine/Agents.lean ====
section
/-! DEFINITION. What one turn does: the outbound agent's handling of a line (43_line_parser.md R113), INBOUND
(44_debounce.md R114), the environment's own moves (60_exceptions.md R145). -/

namespace Sys2Proof.Machine

/-- The outbound agent's handling of one line: PARSE, and what R113 says of each result. -/
def handleLine (line : Text) (s : State) : Result :=
  match parse line with
  | .ok c => exec c.instr s
  | .noOp => .next s.skipLine
  | .err e => .next (s.reject e)

/-- INBOUND(r, now) with `now` latched in the state (R114). -/
def inbound (r : ReadResult) (s : State) : Result :=
  match r with
  | .timeout => .next (s.finishInbound .idle)
  | .fail => .next s.halt
  | .data f =>
    match decode s.params.profile f with
    | .decoded i => exec i s
    | .idle => .next (s.finishInbound .idle)
    | .ignored why => .next (s.finishInbound (.ignored why))
    | .unrecognizedCode => .next (s.finishInbound .unrecognizedCode)
    | .tooLong => .refused .frameTooLong

/-- A turn of the outbound agent. A stopped agent takes no step (log 11); one that waits for a line does nothing. -/
def outboundTurn (s : State) : Result :=
  if s.outboundRunning then
    match s.lines with
    | [] => .next s
    | .endOfStream :: rest => .next (s.beginLine rest s.writeAnswer).endLines
    | .line t answer :: rest => handleLine t (s.beginLine rest answer)
  else .next s

/-- A turn of the inbound agent. A stopped agent takes no step (R124; log 11). One that finds the shutdown flag set, with no
read in flight, exits its loop (R156). One that waits for a read does nothing. A read before the initialisation frames has
no meaning (R150). -/
def inboundTurn (s : State) : Result :=
  if s.inboundRunning then
    if s.shutdownFlag && !s.readInFlight then .next s.exitLoop
    else match s.reads with
      | [] => .next s
      | r :: rest =>
        if s.initSent then inbound r.result (s.beginRead rest r.now)
        else .refused .readBeforeInit
  else .next s

/-- One turn. When both agents have stopped, neither has a further step. A read in flight before the initialisation frames
is one that began before them, and a model says nothing of such a run (R150, R151). -/
def takeTurn (t : Turn) (s : State) : Result :=
  match t with
  | .outbound => if s.outboundRunning || s.inboundRunning then outboundTurn s else .fault .allAgentsStopped
  | .inbound => if s.outboundRunning || s.inboundRunning then inboundTurn s else .fault .allAgentsStopped
  | .initFrames => .next s.sendInit
  | .shutdown inFlight =>
    if inFlight && !s.initSent then .refused .readBeforeInit else .next (s.requestShutdown inFlight)
  | .restart => .next s.restart

/-- One step: the next turn of the schedule, or nothing while the schedule is empty (log 12). A model refuses an
inadmissible profile (10_state.md R22) and a TICKS_PER_MS of 0 (00_scope.md R9). -/
def advance (s : State) : Result :=
  if s.params.profile.admissible then
    if s.params.ticksPerMs = 0 then .refused .nonPositiveTickRate
    else match s.schedule with
      | [] => .next s
      | t :: rest => takeTurn t (s.takeTurn rest)
  else .refused .inadmissibleProfile

/-- The machine made ready to read one frame now: the frame is the inbound agent's next read, its turn is next, it runs, no
shutdown is pending and the initialisation frames have been sent. The tables are the spec's reference fixture, since the
opcode table's code bits mean nothing without tables (DESIGN CHOICE, safe, log 17). -/
def State.withFrame (s : State) (f : Frame) : State :=
  { s with
    params := Params.ref, inboundRunning := true, initSent := true, shutdownFlag := false, readInFlight := false,
    schedule := .inbound :: s.schedule, reads := ⟨.data f, s.now⟩ :: s.reads }

end Sys2Proof.Machine
end

