-- ==== Sys2Proof/Machine/Step.lean ====
section
/-! DEFINITION. The step function. -/

namespace Sys2Proof.Machine

/-- One step of the machine: one turn of one agent, one atomic transaction (00_scope.md R7, 20_memory.md R44). -/
def step (s : State) : Host.Outcome State Fault Refusal := advance s

/-- `s` with the frame of an opcode-table word placed where `step` reads next (log 17). -/
def State.withFetchWord (s : State) (nbits w : Nat) : State := s.withFrame (frameOfWord nbits w)

end Sys2Proof.Machine
end

