-- ==== Sys2Proof/Machine/Runs.lean ====
section
/-! DEFINITION. Runs without end, with what the environment supplies on the way, and the fairness a model assumes of them
(70_reset_and_hazards.md R157, R159). Fairness is a property of a schedule, not a bound on time. -/

namespace Sys2Proof.Machine

/-- The turn of an agent. -/
def Agent.turn : Agent → Turn
  | .outbound => .outbound
  | .inbound => .inbound

/-- The next turn is agent `a`'s. -/
def TakesTurn (a : Agent) (s : State) : Prop := s.schedule.head? = some a.turn

/-- The inbound agent will take the next read result: it runs, it has not to exit on the shutdown flag, and the
initialisation frames have been sent (R114, R124, R150, R156). -/
def ReadyToRead (s : State) : Prop :=
  s.inboundRunning = true ∧ (s.shutdownFlag = true → s.readInFlight = true) ∧ s.initSent = true

/-- Agent `a` runs and has an input: a line or the end of the lines; a read result, or the shutdown flag to exit on. -/
def HasInput (s : State) : Agent → Prop
  | .outbound => s.outboundRunning = true ∧ s.lines ≠ []
  | .inbound => (ReadyToRead s ∧ s.reads ≠ []) ∨
      (s.inboundRunning = true ∧ s.shutdownFlag = true ∧ s.readInFlight = false)

/-- A run: each state is the next state of a step from the one before, and what the environment supplies (R145). -/
def IsRun (r : Nat → State) : Prop :=
  ∀ n, ∃ t turns lines reads, step (r n) = .next t ∧ r (n + 1) = t.supply turns lines reads

/-- A fair run: what a model assumes of the schedule of the two agents. DESIGN CHOICE, unsafe: log 29. -/
structure FairRun (r : Nat → State) : Prop where
  run : IsRun r
  /-- Weak fairness: an agent that goes on having an input eventually takes its step (R159). -/
  weaklyFair : ∀ (a : Agent) (n : Nat), ∃ m, n ≤ m ∧ (HasInput (r m) a → TakesTurn a (r m))
  /-- The inbound agent is polled again and again: while it can read, it gets a turn with a read result, a timeout if
  nothing else (R157). -/
  polled : ∀ n, ∃ m, n ≤ m ∧ (ReadyToRead (r m) → TakesTurn .inbound (r m) ∧ (r m).reads ≠ [])

end Sys2Proof.Machine
end

