-- ==== Sys2Proof/Safety.lean ====
section
/-! DEFINITION. What claims are stated in: canonical texts (30_encoding.md R62), frames a valid Command encodes to, and the
invariant of a run. -/

namespace Sys2Proof.Machine

/-- A canonical text the inbound path can produce: `format` of a Command with a unit 1..16 (10_state.md R33,
41_encoder.md R87, 42_decoder.md R97). -/
def CanonicalText (p : Profile) (t : Text) : Prop :=
  ∃ c : Command, 1 ≤ c.unit ∧ c.unit ≤ 16 ∧ t = format p c

/-- A frame the encoder produces for some valid Command. -/
def EncodedFrame (q : Params) (f : Frame) : Prop :=
  ∃ c : Command, c.wellFormed = true ∧ encode q c = .ok f

/-- The invariant of a run: usable parameters; `lastText` is empty or canonical (R33), and if it is not empty its line is
the last one written; every line written is a canonical text and a newline (R121); every frame written is the encoding of a
valid Command (R113); a read is in flight only after the initialisation frames (R151); a result `sent` names the last frame
written. -/
structure Inv (s : State) : Prop where
  admissible : s.params.profile.Admissible
  tickRate : 0 < s.params.ticksPerMs
  lastText : s.debounce.lastText = [] ∨ CanonicalText s.params.profile s.debounce.lastText
  lastLine : s.debounce.lastText ≠ [] → s.linesOut.getLast? = some (s.debounce.lastText ++ ['\n'])
  lines : ∀ l ∈ s.linesOut, ∃ t, CanonicalText s.params.profile t ∧ l = t ++ ['\n']
  frames : ∀ f ∈ s.framesOut, EncodedFrame s.params f
  inFlight : s.readInFlight = true → s.initSent = true
  sent : ∀ f, s.outResult = some (.sent f) → s.framesOut.getLast? = some f

/-- `step` does not refuse the state's parameters (R22, R9). -/
def Usable (s : State) : Prop := s.params.profile.Admissible ∧ s.params.ticksPerMs ≠ 0

/-- An outcome with its next state changed by `g`. -/
def mapNext (g : State → State) : Result → Result
  | .next t => .next (g t)
  | .fault r => .fault r
  | .refused r => .refused r

/-- An outcome, and if it is a next state the outcome of `k` on that. -/
def andThen (k : State → Result) : Result → Result
  | .next t => k t
  | .fault r => .fault r
  | .refused r => .refused r

/-- On the outbound agent, `i` sends a frame whose bytes are `bytes` and does nothing else (43_line_parser.md R113). -/
def Sends (i : Instr) (bytes : List Nat) (s : State) : Prop :=
  ∃ f : Frame, f.map BitVec.toNat = bytes ∧
    exec i s = .next { s with framesOut := s.framesOut ++ [f], outResult := some (.sent f) }

/-- On the inbound agent, `i` is the event with text `t`: suppressed, with nothing else changed, if `t` repeats the last
text inside the 600 ms window, and otherwise emitted (44_debounce.md R115). -/
def Receives (i : Instr) (t : Text) (s : State) : Prop :=
  (t = s.debounce.lastText ∧ s.now - s.debounce.lastTimestamp < 600 * s.params.ticksPerMs →
    exec i s = .next { s with inResult := some .suppress }) ∧
  (¬ (t = s.debounce.lastText ∧ s.now - s.debounce.lastTimestamp < 600 * s.params.ticksPerMs) →
    exec i s = .next { s with
      debounce := ⟨t, s.now⟩, linesOut := s.linesOut ++ [t ++ ['\n']], inResult := some (.emit t) })

/-- On the outbound agent, `i` is rejected with InvalidUnit: reported, and no frame written (41_encoder.md R83, R86). -/
def RejectsUnit (i : Instr) (s : State) : Prop :=
  exec i s = .next { s with
    reports := s.reports ++ [.invalidUnit], outResult := some (.rejected .invalidUnit) }

/-- The bytes of a normal frame in the formulas of 30_encoding.md R50, on natural numbers. -/
def normalBytes (uc hc cc : Nat) : List Nat :=
  [0x20, (uc >>> 8) ||| hc, 255 - ((uc >>> 8) ||| hc), (uc &&& 0xFF) ||| cc, 255 - ((uc &&& 0xFF) ||| cc)]

/-- The bytes of a pan/tilt frame in the formulas of 30_encoding.md R51, on natural numbers. -/
def panTiltBytes (cc hc cam : Nat) : List Nat := [0x14, (cc >>> 8) ||| cam, cc &&& 0xFF, hc]

end Sys2Proof.Machine
end

