-- ==== Sys2Proof/Certificates/Slice0/Obligations.lean ====
section
/-! DEFINITION. The statements for the provers, from the spec's numbered rules. -/

open Sys2Proof Sys2Proof.Machine

/-! ### Code tables and lookups (40_code_tables.md) -/

/-- R71, R75, R79, R88: each reverse lookup inverts its forward map; it answers only a key whose entry is the code, and
fails exactly when there is none. -/
def Obligations.ReverseLookupsInvertForwardMaps : Prop :=
  (∀ p : Profile, p.Admissible →
    (∀ l : House, p.codeToHouse (p.house l) = some l) ∧ (∀ k : Kind, p.codeToKind (p.cmd k) = some k)) ∧
  (∀ (p : Profile) (c : Byte), (∀ l, p.codeToHouse c = some l → p.house l = c) ∧
    (p.codeToHouse c = none ↔ ∀ l : House, p.house l ≠ c)) ∧
  (∀ (p : Profile) (c : Code), (∀ k, p.codeToKind c = some k → p.cmd k = c) ∧
    (p.codeToKind c = none ↔ ∀ k : Kind, p.cmd k ≠ c)) ∧
  (∀ (ch : Char) (k : Kind), symbolToKind ch = some k ↔ ch = kindToSymbol k)

/-- R76: the classification is `c > 0xFF`, and an admissible profile has exactly the four pan/tilt codes there. -/
def Obligations.PanTiltCodesAreThoseAboveTheLowByte : Prop :=
  (∀ c : Code, isPanTiltCode c = true ↔ 0xFF < c.toNat) ∧
  (∀ p : Profile, p.Admissible → ∀ k : Kind,
    (isPanTiltCode (p.cmd k) = true ↔ k = .up ∨ k = .down ∨ k = .left ∨ k = .right)) ∧
  isPanTiltCode 0x0100 = true ∧ isPanTiltCode 0x00FF = false

/-- R80: `a`..`p` (ASCII 97..112) and `A`..`P` (65..80) are the house letters; any other character fails, and on a line it
is InvalidHouseLetter. -/
def Obligations.HouseLettersAreReadInEitherCase : Prop :=
  (∀ (ch : Char) (l : House), letterFromChar ch = some l ↔ ch.toNat = 97 + l.val ∨ ch.toNat = 65 + l.val) ∧
  (∀ ch : Char, letterFromChar ch = none ↔
    ¬ (97 ≤ ch.toNat ∧ ch.toNat ≤ 112) ∧ ¬ (65 ≤ ch.toNat ∧ ch.toNat ≤ 80)) ∧
  (∀ (k : Kind) (ch : Char) (ds : Text), ds.length ≤ 3 → letterFromChar ch = none →
    parse (kindToSymbol k :: ch :: ds) = .err .invalidHouseLetter)

/-- R24: from the `+a1` example, a conforming profile whose byte 1 has high nibble 6 has HOUSE_CODE(a) = 0x60. -/
def Obligations.ExampleFixesTheCodeOfHouseA : Prop :=
  ∀ (q : Params) (f : Frame) (b1 : Byte), q.profile.Conforming → encode q ⟨.on, 0, 1⟩ = .ok f → f[1]? = some b1 →
    b1.extractLsb' 4 4 = 6 → q.profile.house 0 = 0x60

/-! ### Encoding (30_encoding.md, 41_encoder.md) -/

/-- R53: byte 1 of a normal frame. -/
def Obligations.NormalByteOneIsUnitHighOrHouse : Prop :=
  ∀ (q : Params) (k : Kind) (l : House) (n : UnitEntry), isPanTiltCode (q.profile.cmd k) = false →
    ∃ b1 b2 b3 b4 : Byte, encode q ⟨k, l, unitNumber n⟩ = .ok [0x20, b1, b2, b3, b4] ∧
      b1.toNat = ((q.profile.unit n).toNat >>> 8) ||| (q.profile.house l).toNat ∧ b1.toNat ≤ 0xFF ∧
      (q.profile.RT1 l → q.profile.RT2 n →
        b1.extractLsb' 4 4 = (q.profile.house l).extractLsb' 4 4 ∧
        b1.extractLsb' 0 4 = (q.profile.unit n).extractLsb' 8 4)

/-- R54: byte 3 of a normal frame. -/
def Obligations.NormalByteThreeIsUnitLowOrCommand : Prop :=
  ∀ (q : Params) (k : Kind) (l : House) (n : UnitEntry), isPanTiltCode (q.profile.cmd k) = false →
    ∃ b1 b2 b3 b4 : Byte, encode q ⟨k, l, unitNumber n⟩ = .ok [0x20, b1, b2, b3, b4] ∧
      b3.toNat = ((q.profile.unit n).toNat &&& 0xFF) ||| (q.profile.cmd k).toNat ∧ (q.profile.cmd k).toNat ≤ 0xFF ∧
      (q.profile.RT3 n → q.profile.RT4 k →
        b3.setWidth 16 &&& q.profile.offCode = q.profile.cmd k ∧
        clr (b3.setWidth 16) q.profile.offCode = q.profile.unit n &&& 0xFF)

/-- R55: every 5-byte frame the encoder produces carries exact complements. -/
def Obligations.NormalFramesCarryExactComplements : Prop :=
  ∀ (q : Params) (c : Command) (f : Frame), isPanTiltCode (q.profile.cmd c.kind) = false → encode q c = .ok f →
    ∃ b1 b2 b3 b4 : Byte, f = [0x20, b1, b2, b3, b4] ∧
      b2 = ~~~b1 &&& 0xFF ∧ b4 = ~~~b3 &&& 0xFF ∧ b1 ^^^ b2 = 0xFF ∧ b3 ^^^ b4 = 0xFF

/-- R56, R57: bytes 1, 2 and 3 of a pan/tilt frame; the unit is ignored. -/
def Obligations.PanTiltBytesSplitTheCommandCode : Prop :=
  ∀ (q : Params) (k : Kind) (l : House), isPanTiltCode (q.profile.cmd k) = true →
    ∃ b1 b2 b3 : Byte, (∀ u : Nat, encode q ⟨k, l, u⟩ = .ok [0x14, b1, b2, b3]) ∧
      b1.toNat = ((q.profile.cmd k).toNat >>> 8) ||| (q.profile.cam l).toNat ∧ b1.toNat ≤ 0xFF ∧
      b2.toNat = (q.profile.cmd k).toNat &&& 0xFF ∧ b3 = q.profile.house l ∧
      (q.profile.RT6 k → q.profile.RT7 l k → b1.extractLsb' 0 4 = (q.profile.cmd k).extractLsb' 8 4)

/-- V2.2.26, A4, R83 (the spec's decision D9): ENCODE gives 5 bytes with prefix 0x20 for a valid normal Command, 4 bytes
with prefix 0x14 for a pan/tilt one, and InvalidUnit exactly for a Command that is not valid. -/
def Obligations.FrameShapeFollowsTheFamily : Prop :=
  ∀ (q : Params) (c : Command), q.profile.Admissible →
    (c.kind.isPanTilt = true → ∃ f, encode q c = .ok f ∧ f.length = 4 ∧ f[0]? = some 0x14) ∧
    (c.kind.isPanTilt = false → c.wellFormed = true →
      ∃ f, encode q c = .ok f ∧ f.length = 5 ∧ f[0]? = some 0x20) ∧
    (c.wellFormed = false ↔ encode q c = .err .invalidUnit)

/-- R88: the round-trip law. A DIM or BRIGHT Command with unit 0 is excluded. -/
def Obligations.DecodeOfEncodeIsTheCommand : Prop :=
  ∀ (q : Params) (i : Instr), q.profile.Conforming → i.wellFormed = true →
    (i.command.kind.isPanTilt = false → 1 ≤ i.command.unit) →
    ∃ (f : Frame) (j : Instr), encode q i.command = .ok f ∧ decode q.profile f = .decoded j ∧
      Command.same i.command j.command = true

/-- R23, R88, for what the law leaves out. Under an admissible profile a Command comes back when its own codes satisfy RT1 to
RT7. Under a conforming one, a DIM or BRIGHT Command without a unit decodes with the unit UNIT_DECODE(UNIT0_CODE), if
UNIT0_CODE fits the fields as RT2 and RT3 ask of a unit code; whatever UNIT0_CODE is, its other bits are read as house and
command bits. UNIT0_CODE = UNIT_CODE(1) is D10's default (log 6). -/
def Obligations.CasesOutsideTheRoundTripLawDecodeByTheirCodes : Prop :=
  (∀ (q : Params) (k : Kind) (l : House), q.profile.Admissible →
    (∀ n : UnitEntry, k.isPanTilt = false →
      q.profile.RT1 l → q.profile.RT2 n → q.profile.RT3 n → q.profile.RT4 k → q.profile.RT5 n →
      ∃ f, encode q ⟨k, l, unitNumber n⟩ = .ok f ∧
        decode q.profile f = .decoded (Command.instr ⟨k, l, unitNumber n⟩)) ∧
    (∀ u : Nat, k.isPanTilt = true → q.profile.RT5 0 → q.profile.RT6 k → q.profile.RT7 l k →
      ∃ f, encode q ⟨k, l, u⟩ = .ok f ∧ decode q.profile f = .decoded (Command.instr ⟨k, l, 1⟩))) ∧
  (∀ (q : Params) (k : Kind) (l : House), q.profile.Conforming → k = .dim ∨ k = .bright →
    let u := q.unit0Code
    let off := q.profile.offCode
    ∃ f, encode q ⟨k, l, 0⟩ = .ok f ∧
      decode q.profile f = lookupCommand q.profile (q.profile.house l ||| ((u >>> 8).setWidth 8 &&& 0xF0))
        (clr (u &&& 0x0FFF) off) (q.profile.cmd k ||| (u &&& 0xFF &&& off)) ∧
      (u >>> 8 ≤ 0x0F → u &&& 0xFF &&& off = 0 →
        (∀ n : UnitEntry, q.profile.codeToUnit u = some n →
          decode q.profile f = .decoded (Command.instr ⟨k, l, unitNumber n⟩)) ∧
        (q.profile.codeToUnit u = none → decode q.profile f = .unrecognizedCode)) ∧
      (u = q.profile.unit 0 → decode q.profile f = .decoded (Command.instr ⟨k, l, 1⟩)))

/-- Words written out from opcode_table.json's examples decode to their commands under `REF` (a sanity statement). -/
def Obligations.TableExampleWordsDecode : Prop :=
  decodeTableWord 40 0x20609F00FF = some (.on 0 1) ∧
  decodeTableWord 40 0x2034CB7887 = some (.off 15 16) ∧
  decodeTableWord 32 0x147F0170 = some (.up 1 1) ∧
  decodeTableWord 32 0x146F0260 = some (.down 0 1) ∧
  decodeTableWord 32 0x143F0330 = some (.left 15 1) ∧
  decodeTableWord 32 0x140F0400 = some (.right 12 1)

/-! ### Decoder (42_decoder.md) -/

/-- R58, R94, R97: what a normal frame decodes to, with the field formulas on natural numbers. -/
def Obligations.NormalFramesDecodeByTheirFields : Prop :=
  ∀ (p : Profile) (b1 b2 b3 b4 : Byte), p.Admissible →
    let unitCode := BitVec.ofNat 16
      (((b1.toNat &&& 0x0F) <<< 8) ||| (b3.toNat - (b3.toNat &&& p.offCode.toNat)))
    (∀ i : Instr, decode p [0x20, b1, b2, b3, b4] = .decoded i ↔
      ∃ (l : House) (n : UnitEntry) (k : Kind), (p.house l).toNat = b1.toNat &&& 0xF0 ∧
        p.codeToUnit unitCode = some n ∧ (p.cmd k).toNat = b3.toNat &&& p.offCode.toNat ∧
        i = Command.instr ⟨k, l, unitNumber n⟩) ∧
    (decode p [0x20, b1, b2, b3, b4] = .unrecognizedCode ↔
      (∀ l : House, (p.house l).toNat ≠ b1.toNat &&& 0xF0) ∨ p.codeToUnit unitCode = none ∨
      (∀ k : Kind, (p.cmd k).toNat ≠ b3.toNat &&& p.offCode.toNat))

/-- R59, R95, R97, R98, R92 (D14): what a pan/tilt frame decodes to, a normal kind among them; the unit code is the table's
entry 0; the cam nibble and a fifth byte are not read. -/
def Obligations.PanTiltFramesDecodeByTheirFields : Prop :=
  ∀ (p : Profile) (b1 b2 b3 b4 : Byte), p.Admissible →
    let cmdCode := ((b1.toNat &&& 0x0F) <<< 8) ||| b2.toNat
    (∀ i : Instr, decode p [0x14, b1, b2, b3] = .decoded i ↔
      ∃ (l : House) (n : UnitEntry) (k : Kind), p.house l = b3 ∧ p.codeToUnit (p.unit 0) = some n ∧
        (p.cmd k).toNat = cmdCode ∧ i = Command.instr ⟨k, l, unitNumber n⟩) ∧
    (decode p [0x14, b1, b2, b3] = .unrecognizedCode ↔
      (∀ l : House, p.house l ≠ b3) ∨ p.codeToUnit (p.unit 0) = none ∨ (∀ k : Kind, (p.cmd k).toNat ≠ cmdCode)) ∧
    decode p [0x14, b1, b2, b3, b4] = decode p [0x14, b1, b2, b3]

/-- R96: the complement bytes are not read. -/
def Obligations.ComplementBytesAreNotChecked : Prop :=
  (∀ (p : Profile) (b1 b3 x2 x4 y2 y4 : Byte), decode p [0x20, b1, x2, b3, x4] = decode p [0x20, b1, y2, b3, y4]) ∧
  decode Profile.ref [0x20, 0x60, 0x00, 0x00, 0x00] = .decoded (.on 0 1) ∧
  decode Profile.ref [0x20, 0x60, 0x9F, 0x00, 0xFF] = .decoded (.on 0 1)

/-- R97, R64: a decoded unit is 1..16, and under an admissible profile a frame with prefix 0x20 gives a normal kind. -/
def Obligations.DecodedCommandsAreValid : Prop :=
  ∀ (p : Profile) (f : Frame) (i : Instr), decode p f = .decoded i →
    1 ≤ i.command.unit ∧ i.command.unit ≤ 16 ∧ i.wellFormed = true ∧
    (p.Admissible → f[0]? = some 0x20 → i.command.kind.isPanTilt = false)

/-! ### Line parser (43_line_parser.md) -/

/-- R103: a line is TooLong exactly when it has more than 5 characters. -/
def Obligations.LinesOverFiveCharactersAreTooLong : Prop :=
  (∀ line : Text, 5 < line.length → parse line = .err .tooLong) ∧
  (∀ line : Text, line.length = 5 → parse line ≠ .err .tooLong) ∧
  parse ['+', 'a', '1', '+', 'a', '1'] = .err .tooLong

/-- R104: a first character that is none of the eight symbols. -/
def Obligations.UnknownSymbolsAreRejected : Prop :=
  (∀ (c0 : Char) (rest : Text), 1 ≤ rest.length → rest.length ≤ 4 →
    (parse (c0 :: rest) = .err .invalidCommandSymbol ↔ c0 ∉ ['+', '-', 'u', 'd', 'l', 'r', 'b', 's'])) ∧
  parse ['*', 'a', '1'] = .err .invalidCommandSymbol ∧ parse ['U', 'b'] = .err .invalidCommandSymbol

/-- R105: a second character that is no house letter; an upper-case letter becomes lower case. -/
def Obligations.UnknownHouseLettersAreRejected : Prop :=
  (∀ (k : Kind) (c1 : Char) (ds : Text), ds.length ≤ 3 →
    (parse (kindToSymbol k :: c1 :: ds) = .err .invalidHouseLetter ↔
      ¬ (97 ≤ c1.toNat ∧ c1.toNat ≤ 112) ∧ ¬ (65 ≤ c1.toNat ∧ c1.toNat ≤ 80))) ∧
  (∀ (k : Kind) (l : House) (ds : Text),
    parse (kindToSymbol k :: houseCharUpper l :: ds) = parse (kindToSymbol k :: houseChar l :: ds)) ∧
  parse ['+', 'z', '1'] = .err .invalidHouseLetter ∧ parse ['+', 'A', '1'] = .ok ⟨.on, 0, 1⟩

/-- R102 (D6), R106 (D8): exactly the lines of one character are TooShort; a character from position 2 on that is no ASCII
digit is InvalidDigit, whatever the kind. -/
def Obligations.ShortLinesAndNonDigitsAreRejected : Prop :=
  (∀ line : Text, parse line = .err .tooShort ↔ line.length = 1) ∧
  (∀ (k : Kind) (l : House) (ds : Text), ds.length ≤ 3 →
    (parse (kindToSymbol k :: houseChar l :: ds) = .err .invalidDigit ↔
      ∃ ch ∈ ds, ¬ (48 ≤ ch.toNat ∧ ch.toNat ≤ 57)))

/-- R107: a line with no digits is MissingUnit exactly for ON and OFF; otherwise it is a Command with unit 0. -/
def Obligations.MissingUnitIsForOnAndOffOnly : Prop :=
  (∀ l : House, parse ['+', houseChar l] = .err .missingUnit ∧ parse ['-', houseChar l] = .err .missingUnit) ∧
  (∀ (k : Kind) (l : House), k ≠ .on → k ≠ .off → parse [kindToSymbol k, houseChar l] = .ok ⟨k, l, 0⟩) ∧
  (∀ (k : Kind) (l : House) (d : Char) (ds : Text),
    parse (kindToSymbol k :: houseChar l :: d :: ds) ≠ .err .missingUnit)

/-- R108, R109, R110 (D8, D9, D11): the unit is made of the first two digits `x`, `y`; a third is dropped; a unit out of
range for the kind is InvalidUnit. -/
def Obligations.UnitIsReadFromTheFirstTwoDigits : Prop :=
  ∀ (k : Kind) (l : House) (x y z : Fin 10),
    let ch := fun d : Fin 10 => Char.ofNat (48 + d.val)
    let answer := fun u : Nat =>
      if unitInRange k u = true then ParseResult.ok ⟨k, l, u⟩ else .err .invalidUnit
    parse [kindToSymbol k, houseChar l, ch x] = answer x.val ∧
    parse [kindToSymbol k, houseChar l, ch x, ch y] = answer (10 * x.val + y.val) ∧
    parse [kindToSymbol k, houseChar l, ch x, ch y, ch z] = answer (10 * x.val + y.val)

/-- R62, R87, R100: the canonical text of a valid Command parses back to it; for the pan/tilt kinds the unit, which the text
does not hold, does not count (R26). -/
def Obligations.ParseOfFormatIsTheCommand : Prop :=
  ∀ (p : Profile) (c : Command), p.Admissible → c.wellFormed = true →
    ∃ d, parse (format p c) = .ok d ∧ Command.same c d = true

/-- R87: canonical texts of Commands with units up to 16 have 2 to 4 characters and differ for different Commands, so that
comparing texts compares Commands. -/
def Obligations.CanonicalTextsTellCommandsApart : Prop :=
  ∀ (p : Profile) (c d : Command), p.Admissible → c.unit ≤ 16 → d.unit ≤ 16 →
    (format p c = format p d ↔ Command.same c d = true) ∧
    2 ≤ (format p c).length ∧ (format p c).length ≤ 4

/-- R109, R83: a Command the parser accepts is valid, so ENCODE never rejects it. -/
def Obligations.ParsedCommandsAlwaysEncode : Prop :=
  ∀ (q : Params) (line : Text) (c : Command), q.profile.Admissible → parse line = .ok c →
    c.wellFormed = true ∧ ∃ f, encode q c = .ok f

/-! ### What each command does -/

/-- R126, R127, R113: ON and OFF with a unit 1..16, on the outbound agent with the write accepted. -/
def Obligations.OnAndOffSendNormalFrames : Prop :=
  ∀ (s : State) (h : House) (n : UnitEntry), s.params.profile.Admissible → s.agent = .outbound →
    s.writeAnswer = .accepted →
    let p := s.params.profile
    Sends (.on h (unitNumber n)) (normalBytes (p.unit n).toNat (p.house h).toNat (p.cmd .on).toNat) s ∧
    Sends (.off h (unitNumber n)) (normalBytes (p.unit n).toNat (p.house h).toNat (p.cmd .off).toNat) s

/-- R128, R129, R113, R83: DIM and BRIGHT with a unit 1..16, and with unit 0, which carries UNIT0_CODE. -/
def Obligations.DimAndBrightSendNormalFrames : Prop :=
  ∀ (s : State) (h : House) (n : UnitEntry), s.params.profile.Admissible → s.agent = .outbound →
    s.writeAnswer = .accepted →
    let p := s.params.profile
    Sends (.dim h (unitNumber n)) (normalBytes (p.unit n).toNat (p.house h).toNat (p.cmd .dim).toNat) s ∧
    Sends (.bright h (unitNumber n)) (normalBytes (p.unit n).toNat (p.house h).toNat (p.cmd .bright).toNat) s ∧
    Sends (.dim h 0) (normalBytes s.params.unit0Code.toNat (p.house h).toNat (p.cmd .dim).toNat) s ∧
    Sends (.bright h 0) (normalBytes s.params.unit0Code.toNat (p.house h).toNat (p.cmd .bright).toNat) s

/-- R130 to R133, R113: UP, DOWN, LEFT and RIGHT with any unit, which the frame does not show. -/
def Obligations.PanTiltCommandsSendPanTiltFrames : Prop :=
  ∀ (s : State) (h : House) (u : Nat), s.params.profile.Admissible → s.agent = .outbound →
    s.writeAnswer = .accepted →
    let p := s.params.profile
    let frame := fun k : Kind => panTiltBytes (p.cmd k).toNat (p.house h).toNat (p.cam h).toNat
    Sends (.up h u) (frame .up) s ∧ Sends (.down h u) (frame .down) s ∧
    Sends (.left h u) (frame .left) s ∧ Sends (.right h u) (frame .right) s

/-- R114, R115, R120, R87: every command on the inbound agent, emitted or suppressed as its canonical text: symbol, letter
and, for the normal kinds only, unit. -/
def Obligations.ReceivedCommandsAreEmittedOrSuppressed : Prop :=
  ∀ (s : State) (h : House) (u : Nat), s.params.profile.Admissible → s.agent = .inbound →
    Receives (.on h u) ('+' :: houseChar h :: Nat.toDigits 10 u) s ∧
    Receives (.off h u) ('-' :: houseChar h :: Nat.toDigits 10 u) s ∧
    Receives (.dim h u) ('s' :: houseChar h :: Nat.toDigits 10 u) s ∧
    Receives (.bright h u) ('b' :: houseChar h :: Nat.toDigits 10 u) s ∧
    Receives (.up h u) ['u', houseChar h] s ∧ Receives (.down h u) ['d', houseChar h] s ∧
    Receives (.left h u) ['l', houseChar h] s ∧ Receives (.right h u) ['r', houseChar h] s

/-- R83 (D9): a unit out of range is InvalidUnit on the outbound agent, and no frame is written. -/
def Obligations.UnitsOutOfRangeAreReported : Prop :=
  ∀ (s : State) (h : House) (u : Nat), s.params.profile.Admissible → s.agent = .outbound →
    (u = 0 ∨ 16 < u → RejectsUnit (.on h u) s ∧ RejectsUnit (.off h u) s) ∧
    (16 < u → RejectsUnit (.dim h u) s ∧ RejectsUnit (.bright h u) s)

/-- R137 (D23): a failed write of any valid command writes nothing and stops the outbound agent only, which then reads no
further line. -/
def Obligations.FailedWriteStopsTheOutboundAgent : Prop :=
  (∀ (s : State) (i : Instr), s.params.profile.Admissible → s.agent = .outbound → s.writeAnswer = .transportError →
    i.wellFormed = true →
    (∃ f, encode s.params i.command = .ok f) ∧
    exec i s = .next { s with outboundRunning := false, outResult := some .writeFailed }) ∧
  (∀ (s : State) (rest : List Turn), Usable s → s.outboundRunning = false → s.inboundRunning = true →
    s.schedule = .outbound :: rest → step s = .next { s with schedule := rest })

/-- R29, R42, R45: what any command leaves unchanged on the outbound agent: all but its outputs, its result and its running
bit; and its outputs only grow. -/
def Obligations.OutboundCommandsLeaveTheRestUnchanged : Prop :=
  ∀ (s t : State) (i : Instr), s.agent = .outbound → exec i s = .next t →
    t = { s with framesOut := t.framesOut, reports := t.reports, outResult := t.outResult,
                 outboundRunning := t.outboundRunning } ∧
    (t.framesOut = s.framesOut ∨ ∃ f, encode s.params i.command = .ok f ∧ t.framesOut = s.framesOut ++ [f]) ∧
    (t.reports = s.reports ∨ t.reports = s.reports ++ [.invalidUnit])

/-- R29, R45: what any command leaves unchanged on the inbound agent: all but DebounceState, the line output and its
outcome. -/
def Obligations.InboundCommandsLeaveTheRestUnchanged : Prop :=
  ∀ (s t : State) (i : Instr), s.agent = .inbound → exec i s = .next t →
    t = { s with debounce := t.debounce, linesOut := t.linesOut, inResult := t.inResult } ∧
    (t.debounce = s.debounce ∧ t.linesOut = s.linesOut ∨
      t.debounce = ⟨format s.params.profile i.command, s.now⟩ ∧
      t.linesOut = s.linesOut ++ [format s.params.profile i.command ++ ['\n']])

/-! ### Debounce and inbound processor (44_debounce.md) -/

/-- R116: DEBOUNCE suppresses exactly a repeat of the last text strictly inside the window, and then changes nothing. -/
def Obligations.SuppressionIsExactlyARepeatInsideTheWindow : Prop :=
  ∀ (w : Int) (d : DebounceState) (x : Text) (now : Int),
    ((debounce w d x now).1 = .suppress ↔ x = d.lastText ∧ now - d.lastTimestamp < w) ∧
    ((debounce w d x now).1 = .suppress → (debounce w d x now).2 = d) ∧
    debounce w d d.lastText (d.lastTimestamp + w) = (.emit d.lastText, ⟨d.lastText, d.lastTimestamp + w⟩) ∧
    (∀ (s t : State) (i : Instr), s.agent = .inbound → exec i s = .next t → t.inResult = some .suppress →
      t.debounce = s.debounce ∧ t.linesOut = s.linesOut)

/-- R117: every emission writes both fields; a different text is emitted regardless of timing. -/
def Obligations.EmissionWritesBothFields : Prop :=
  ∀ (w : Int) (d : DebounceState) (x : Text) (now : Int),
    (∀ y, (debounce w d x now).1 = .emit y → y = x ∧ (debounce w d x now).2 = ⟨x, now⟩) ∧
    (x ≠ d.lastText → debounce w d x now = (.emit x, ⟨x, now⟩))

/-- R118 (D17): elapsed is signed, so a repeat is suppressed when the clock has gone backwards, in any resolution. -/
def Obligations.RepeatsAreSuppressedWhenTheClockGoesBack : Prop :=
  ∀ (s : State) (i : Instr), s.params.ticksPerMs ≠ 0 → s.agent = .inbound →
    format s.params.profile i.command = s.debounce.lastText → s.now ≤ s.debounce.lastTimestamp →
    exec i s = .next { s with inResult := some .suppress }

/-- R122: the first event after reset is emitted, whatever `lastTimestamp` holds. -/
def Obligations.FirstEventIsAlwaysEmitted : Prop :=
  ∀ (s : State) (i : Instr), s.agent = .inbound → s.debounce.lastText = [] →
    exec i s = .next { s with
      debounce := ⟨format s.params.profile i.command, s.now⟩,
      linesOut := s.linesOut ++ [format s.params.profile i.command ++ ['\n']],
      inResult := some (.emit (format s.params.profile i.command)) }

/-- R123 (a), R152: however many repeats come inside the window, the state stays that of the last emission, and the first
repeat at or after the window's end is emitted. R123 (b), R153: only the last text is remembered, so after an event `a`,
suppressed or emitted, `b` and then `a` are both emitted whatever their times; the first `a` is emitted unless it repeats. -/
def Obligations.HeldKeyOncePerWindowAlternationsAlways : Prop :=
  (∀ (w : Int) (x : Text) (last : Int) (times : List Int) (next : Int),
    (∀ t ∈ times, t - last < w) → w ≤ next - last →
    let after := times.foldl (fun d t => (debounce w d x t).2) ⟨x, last⟩
    after = ⟨x, last⟩ ∧ debounce w after x next = (.emit x, ⟨x, next⟩) ∧
    ∀ t ∈ times, debounce w after x t = (.suppress, ⟨x, last⟩)) ∧
  (∀ (w : Int) (d : DebounceState) (a b : Text) (t1 t2 t3 : Int), a ≠ b →
    let d1 := debounce w d a t1
    let d2 := debounce w d1.2 b t2
    let d3 := debounce w d2.2 a t3
    (¬ (a = d.lastText ∧ t1 - d.lastTimestamp < w) → d1 = (.emit a, ⟨a, t1⟩)) ∧
    d2 = (.emit b, ⟨b, t2⟩) ∧ d3 = (.emit a, ⟨a, t3⟩))

/-- R120, R154: two frames that decode to the same Command are repeats of each other, whatever their bytes. -/
def Obligations.FramesOfOneCommandAreRepeats : Prop :=
  ∀ (s t : State) (f g : Frame) (i : Instr) (later : Int), s.agent = .inbound →
    decode s.params.profile f = .decoded i → decode s.params.profile g = .decoded i →
    inbound (.data f) s = .next t → later - t.debounce.lastTimestamp < 600 * s.params.ticksPerMs →
    inbound (.data g) { t with now := later } = .next { t with now := later, inResult := some .suppress }

/-- R121: one output line, the text and a newline, per emission, and none per suppression. -/
def Obligations.OneLineIsWrittenPerEmission : Prop :=
  ∀ (r : ReadResult) (s t : State), s.agent = .inbound → inbound r s = .next t →
    (∀ x, t.inResult = some (.emit x) → t.linesOut = s.linesOut ++ [x ++ ['\n']]) ∧
    (t.inResult = some .suppress → t.linesOut = s.linesOut)

/-- R123 (c), R136: an outcome that is no emission and no halt changes nothing but itself. -/
def Obligations.DroppedAndSuppressedEventsChangeNothingElse : Prop :=
  ∀ (r : ReadResult) (s t : State), s.agent = .inbound → inbound r s = .next t →
    (∀ x, t.inResult ≠ some (.emit x)) → t.inResult ≠ some .halted → t = { s with inResult := t.inResult }

/-- R29: only DEBOUNCE writes DebounceState (a restart, which is process start again, initialises it), and no turn but the
inbound agent's reads it. -/
def Obligations.OnlyTheInboundAgentTouchesDebounceState : Prop :=
  (∀ s t : State, step s = .next t → t.debounce ≠ s.debounce →
    (∃ rest x, s.schedule = .inbound :: rest ∧ t.inResult = some (.emit x)) ∨
    ∃ rest, s.schedule = .restart :: rest) ∧
  (∀ (s : State) (d : DebounceState) (turn : Turn), turn ≠ .inbound → turn ≠ .restart →
    takeTurn turn { s with debounce := d } = mapNext (fun t => { t with debounce := d }) (takeTurn turn s))

/-! ### Steps of the agents -/

/-- R114: a step of the inbound agent is INBOUND of its next read, and runs the command the read decodes to. Around it, it
takes the turn and the read, and latches the time (log 9). -/
def Obligations.StepRunsTheDecodedRead : Prop :=
  ∀ (s : State) (rest : List Turn) (rs : List ReadInput) (r : ReadInput),
    Usable s → ReadyToRead s → s.schedule = .inbound :: rest → s.reads = r :: rs →
    let s' := { s with schedule := rest, reads := rs, agent := Agent.inbound, now := r.now, readInFlight := false }
    step s = inbound r.result s' ∧
    ∀ f i, r.result = .data f → decode s.params.profile f = .decoded i → step s = exec i s'

/-- R113: a step of the outbound agent runs the command its line parses to. Around `exec` it takes the turn and the line,
and latches the transport's answer (log 9). -/
def Obligations.StepRunsTheParsedLine : Prop :=
  ∀ (s : State) (rest : List Turn) (ls : List LineInput) (line : Text) (a : WriteAnswer) (c : Command),
    Usable s → s.outboundRunning = true → s.schedule = .outbound :: rest → s.lines = .line line a :: ls →
    parse line = .ok c →
    step s = exec c.instr { s with schedule := rest, lines := ls, agent := .outbound, writeAnswer := a }

/-- R113, R101: what the outbound agent does with each line, an empty one among them, and at the end of the stream. -/
def Obligations.OutboundAgentHandlesEachLine : Prop :=
  ∀ (s : State) (rest : List Turn) (ls : List LineInput) (a : WriteAnswer),
    Usable s → s.outboundRunning = true → s.schedule = .outbound :: rest →
    let s' := { s with schedule := rest, lines := ls, agent := Agent.outbound, writeAnswer := a }
    (∀ line c, s.lines = .line line a :: ls → parse line = .ok c → a = .accepted →
      ∃ f, encode s.params c = .ok f ∧
        step s = .next { s' with framesOut := s.framesOut ++ [f], outResult := some (.sent f) }) ∧
    parse [] = .noOp ∧
    (s.lines = .line [] a :: ls → step s = .next { s' with outResult := some .noOp }) ∧
    (∀ line e, s.lines = .line line a :: ls → parse line = .err e →
      step s = .next { s' with reports := s.reports ++ [e], outResult := some (.rejected e) }) ∧
    (s.lines = .endOfStream :: ls →
      step s = .next { s with
        schedule := rest, lines := ls, agent := .outbound, outboundRunning := false, outResult := some .ended })

/-- R65: a frame with any other first byte is silently ignored: no output, no change of the debounce state. -/
def Obligations.UnknownPrefixesAreSilentlyIgnored : Prop :=
  ∀ (s : State) (b0 : Byte) (g : Frame), b0 ≠ 0x20 → b0 ≠ 0x14 → g.length ≤ 4 →
    decode s.params.profile (b0 :: g) = .ignored .unknownPrefix ∧
    inbound (.data (b0 :: g)) s = .next { s with inResult := some (.ignored .unknownPrefix) }

/-- R91 (D13), R90 (D15), R66, R114: a short frame with a known prefix is silently ignored; an empty read and a timeout are
idle; an unrecognised code drops the event. -/
def Obligations.ShortFramesAndUnrecognizedCodesAreDropped : Prop :=
  ∀ (s : State) (g : Frame),
    (g.length < 4 → inbound (.data (0x20 :: g)) s = .next { s with inResult := some (.ignored .shortFrame) }) ∧
    (g.length < 3 → inbound (.data (0x14 :: g)) s = .next { s with inResult := some (.ignored .shortFrame) }) ∧
    inbound (.data []) s = .next { s with inResult := some .idle } ∧
    inbound .timeout s = .next { s with inResult := some .idle } ∧
    (decode s.params.profile g = .unrecognizedCode →
      inbound (.data g) s = .next { s with inResult := some .unrecognizedCode })

/-- R124: a failed read halts the inbound agent, and then it has no further step: its turns change nothing. -/
def Obligations.FailedReadHaltsTheInboundAgent : Prop :=
  (∀ (s : State) (rest : List Turn) (rs : List ReadInput) (t : Int),
    Usable s → ReadyToRead s → s.schedule = .inbound :: rest → s.reads = ⟨.fail, t⟩ :: rs →
    step s = .next { s with schedule := rest, reads := rs, agent := .inbound, now := t, readInFlight := false,
                            inboundRunning := false, inResult := some .halted }) ∧
  (∀ (s : State) (rest : List Turn), Usable s → s.inboundRunning = false → s.outboundRunning = true →
    s.schedule = .inbound :: rest → step s = .next { s with schedule := rest })

/-- R145, R156, R124 (log 13): the shutdown turn sets the flag and marks a read in flight, and changes nothing if the flag
was set; after the shutdown flag is set, a read that was in flight is still processed like any other; at
its next turn the agent stops without reading. -/
def Obligations.ShutdownLetsTheReadInFlightFinish : Prop :=
  (∀ (s : State) (rest : List Turn) (b : Bool), Usable s → s.schedule = .shutdown b :: rest →
    (b = true → s.initSent = true) →
    (s.shutdownFlag = false → step s = .next { s with schedule := rest, shutdownFlag := true, readInFlight := b }) ∧
    (s.shutdownFlag = true → step s = .next { s with schedule := rest })) ∧
  (∀ (s : State) (rest : List Turn) (rs : List ReadInput) (r : ReadInput),
    Usable s → s.inboundRunning = true → s.initSent = true → s.shutdownFlag = true → s.readInFlight = true →
    s.schedule = .inbound :: rest → s.reads = r :: rs →
    step s = inbound r.result { s with schedule := rest, reads := rs, agent := .inbound, now := r.now,
                                       readInFlight := false }) ∧
  (∀ (s : State) (rest : List Turn), Usable s → s.inboundRunning = true → s.shutdownFlag = true →
    s.readInFlight = false → s.schedule = .inbound :: rest →
    step s = .next { s with schedule := rest, inboundRunning := false }) ∧
  (∀ (s t : State) (r : ReadResult), s.agent = .inbound → inbound r s = .next t →
    t.shutdownFlag = s.shutdownFlag ∧ t.readInFlight = s.readInFlight)

/-- R22, R9, R93, R150, R151: what a model refuses (log 14, log 18, log 19), and the environment's turn that makes reads
possible. -/
def Obligations.RefusalsOfTheMachine : Prop :=
  (∀ s : State, ¬ s.params.profile.Admissible → step s = .refused .inadmissibleProfile) ∧
  (∀ s : State, s.params.profile.Admissible → s.params.ticksPerMs = 0 → step s = .refused .nonPositiveTickRate) ∧
  (∀ (s : State) (rest : List Turn) (rs : List ReadInput) (f : Frame) (t : Int), Usable s → ReadyToRead s →
    s.schedule = .inbound :: rest → s.reads = ⟨.data f, t⟩ :: rs → 5 < f.length →
    step s = .refused .frameTooLong) ∧
  (∀ (s : State) (rest : List Turn) (rs : List ReadInput) (r : ReadInput), Usable s → s.inboundRunning = true →
    (s.shutdownFlag = true → s.readInFlight = true) → s.initSent = false → s.schedule = .inbound :: rest →
    s.reads = r :: rs → step s = .refused .readBeforeInit) ∧
  (∀ (s : State) (rest : List Turn), Usable s → s.initSent = false → s.schedule = .shutdown true :: rest →
    step s = .refused .readBeforeInit) ∧
  (∀ (s : State) (rest : List Turn), Usable s → s.schedule = .initFrames :: rest →
    step s = .next { s with schedule := rest, initSent := true })

/-- The model's one fault (log 11): an agent's turn when both agents have stopped. No other state gives one. -/
def Obligations.OnlyTwoStoppedAgentsFault : Prop :=
  ∀ s : State, step s = .fault .allAgentsStopped ↔
    Usable s ∧ s.inboundRunning = false ∧ s.outboundRunning = false ∧
    ∃ rest, s.schedule = .outbound :: rest ∨ s.schedule = .inbound :: rest

/-! ### The whole machine -/

/-- R32, R135, and D20 for the numbers: the status of every result of every port; a failed write, the end of the lines and a
frame outside DECODE's contract have none. -/
def Obligations.EveryPortResultHasItsStatusNumber : Prop :=
  (∀ c f i x e,
    (statusOfParse (.ok c)).code = 0 ∧ (statusOfEncode (.ok f)).code = 0 ∧
    (statusOfDecode (.decoded i)).map Status.code = some 0 ∧ (statusOfDebounce (.emit x)).code = 0 ∧
    (statusOfInbound (.emit x)).code = 0 ∧ (statusOfOutbound (.sent f)).map Status.code = some 0 ∧
    statusOfParse (.err e) = statusOfError e ∧ statusOfEncode (.err e) = statusOfError e ∧
    statusOfOutbound (.rejected e) = some (statusOfError e)) ∧
  (statusOfParse .noOp).code = 1 ∧ statusOfOutbound .noOp = some (statusOfParse .noOp) ∧
  (statusOfError .tooShort).code = 2 ∧ (statusOfError .tooLong).code = 3 ∧
  (statusOfError .invalidCommandSymbol).code = 4 ∧ (statusOfError .invalidHouseLetter).code = 5 ∧
  (statusOfError .invalidDigit).code = 6 ∧ (statusOfError .missingUnit).code = 7 ∧
  (statusOfError .invalidUnit).code = 8 ∧
  (statusOfDecode .unrecognizedCode).map Status.code = some 9 ∧ (statusOfInbound .unrecognizedCode).code = 9 ∧
  (statusOfDecode (.ignored .unknownPrefix)).map Status.code = some 10 ∧
  (statusOfInbound (.ignored .unknownPrefix)).code = 10 ∧
  (statusOfDecode (.ignored .shortFrame)).map Status.code = some 11 ∧
  (statusOfInbound (.ignored .shortFrame)).code = 11 ∧
  (statusOfDecode .idle).map Status.code = some 12 ∧ (statusOfInbound .idle).code = 12 ∧
  (statusOfDebounce .suppress).code = 13 ∧ (statusOfInbound .suppress).code = 13 ∧
  (statusOfInbound .halted).code = 14 ∧
  statusOfDecode .tooLong = none ∧ statusOfOutbound .writeFailed = none ∧ statusOfOutbound .ended = none ∧
  (∀ a b : Status, a.code = b.code → a = b)

/-- R157, R159 (the model's fairness assumption, log 29): in a fair run every line is handled, and every read result unless a
shutdown or a restart comes first; and an inbound agent that is neither shut down nor restarted and whose reads do not fail
goes on reading without end, whatever the outbound agent does. -/
def Obligations.FairRunsServeBothAgents : Prop :=
  ∀ r : Nat → State, FairRun r →
    (∀ n x ls, (r n).outboundRunning = true → (r n).lines = x :: ls →
      ∃ m more, n ≤ m ∧ TakesTurn .outbound (r m) ∧ (r m).outboundRunning = true ∧
        (r m).lines = x :: (ls ++ more)) ∧
    (∀ n x rs, ReadyToRead (r n) → (r n).reads = x :: rs →
      ∃ m more, n ≤ m ∧
        (TakesTurn .inbound (r m) ∧ ReadyToRead (r m) ∧ (r m).reads = x :: (rs ++ more) ∨
          (r m).schedule.head? = some (.shutdown false) ∨ (r m).schedule.head? = some .restart)) ∧
    (∀ n, ReadyToRead (r n) → (r n).shutdownFlag = false →
      (∀ m, n ≤ m → (∀ b, (r m).schedule.head? ≠ some (.shutdown b)) ∧ (r m).schedule.head? ≠ some .restart ∧
        ∀ x, (r m).reads.head? = some x → x.result ≠ .fail) →
      ∀ k, ∃ m, k ≤ m ∧ n ≤ m ∧ TakesTurn .inbound (r m) ∧ ReadyToRead (r m) ∧ (r m).reads ≠ [])

/-- R147, R30, R24, R73: what reset leaves. UNIT_DECODE maps UNIT_CODE(1) to unit 1, so with reset's tables a pan/tilt frame
of a known house and command decodes, and to unit 1. The values of the latches, of UNIT0_CODE and of TICKS_PER_MS are left out: they are
the model's or the spec's own choice (log 6, log 7, log 9). -/
def Obligations.ResetState : Prop :=
  State.reset.params.profile.Admissible ∧ State.reset.debounce.lastText = [] ∧
  State.reset.inboundRunning = true ∧ State.reset.outboundRunning = true ∧
  (∀ f : Frame, encode State.reset.params ⟨.on, 0, 1⟩ = .ok f →
    f[0]? = some 0x20 ∧ ∃ b1 : Byte, f[1]? = some b1 ∧ b1 &&& 0x60 = 0x60) ∧
  State.reset.params.profile.codeToUnit (State.reset.params.profile.unit 0) = some 0 ∧
  (∀ (k : Kind) (l : House) (b1 b2 : Byte),
    (State.reset.params.profile.cmd k).toNat = ((b1.toNat &&& 0x0F) <<< 8) ||| b2.toNat →
    decode State.reset.params.profile [0x14, b1, b2, State.reset.params.profile.house l] =
      .decoded (Command.instr ⟨k, l, 1⟩))

/-- R147, R148 (log 15): a restart gives the block the state it has after reset, whatever it was before, and keeps the
tables. -/
def Obligations.RestartForgetsTheBlockState : Prop :=
  ∀ (s : State) (rest : List Turn), Usable s → s.schedule = .restart :: rest →
    step s = .next { s with
      schedule := rest, debounce := State.reset.debounce, inboundRunning := true, outboundRunning := true,
      initSent := false, shutdownFlag := false, readInFlight := false }

/-- R35, R48: no step writes a table or any other parameter. -/
def Obligations.StepsNeverWriteTheTables : Prop :=
  ∀ s t : State, step s = .next t → t.params = s.params

/-- R46, R121: what has been written stays written, in order; a step adds at most one frame and at most one line. -/
def Obligations.OutputsOnlyGrow : Prop :=
  ∀ s t : State, step s = .next t →
    (t.framesOut = s.framesOut ∨ ∃ f, t.framesOut = s.framesOut ++ [f]) ∧
    (t.linesOut = s.linesOut ∨ ∃ l, t.linesOut = s.linesOut ++ [l]) ∧
    (t.reports = s.reports ∨ ∃ e, t.reports = s.reports ++ [e])

/-- The invariant holds at reset (R33, R147), where `lastText` is empty and no frame, line or report has been recorded. That
the records of outputs start empty is the model's choice (log 16). -/
def Obligations.InvariantHoldsAtReset : Prop :=
  Inv State.reset ∧ State.reset.debounce.lastText = [] ∧ State.reset.framesOut = [] ∧ State.reset.linesOut = [] ∧
  State.reset.reports = []

/-- Every step keeps the invariant: `lastText` is empty or canonical and is the last line written, every line written is
canonical, every frame written is the encoding of a valid Command, a read is in flight only after the initialisation
frames. -/
def Obligations.StepKeepsTheInvariant : Prop := ∀ s t : State, Inv s → step s = .next t → Inv t

/-- R45: while both agents run, their turns can be taken in either order with the same result, up to the latch that says
whose transaction was the last (log 9). -/
def Obligations.AgentsTurnsCommute : Prop :=
  ∀ (s : State) (rest : List Turn), s.inboundRunning = true → s.outboundRunning = true →
    mapNext (fun t => { t with agent := .outbound })
      (andThen step (step { s with schedule := .outbound :: .inbound :: rest })) =
    mapNext (fun t => { t with agent := .outbound })
      (andThen step (step { s with schedule := .inbound :: .outbound :: rest }))
end

