-- ==== Sys2Proof/Laws/State.lean ====
section
/-! SUPPORT. One lemma per field per update of State, so that no proof unfolds a record update. -/

namespace Sys2Proof.Machine

variable (s : State)

@[simp] theorem writeFrame_params (f : Frame) : (s.writeFrame f).params = s.params := rfl
@[simp] theorem writeFrame_debounce (f : Frame) : (s.writeFrame f).debounce = s.debounce := rfl
@[simp] theorem writeFrame_inboundRunning (f : Frame) : (s.writeFrame f).inboundRunning = s.inboundRunning := rfl
@[simp] theorem writeFrame_outboundRunning (f : Frame) : (s.writeFrame f).outboundRunning = s.outboundRunning := rfl
@[simp] theorem writeFrame_initSent (f : Frame) : (s.writeFrame f).initSent = s.initSent := rfl
@[simp] theorem writeFrame_shutdownFlag (f : Frame) : (s.writeFrame f).shutdownFlag = s.shutdownFlag := rfl
@[simp] theorem writeFrame_readInFlight (f : Frame) : (s.writeFrame f).readInFlight = s.readInFlight := rfl
@[simp] theorem writeFrame_agent (f : Frame) : (s.writeFrame f).agent = s.agent := rfl
@[simp] theorem writeFrame_now (f : Frame) : (s.writeFrame f).now = s.now := rfl
@[simp] theorem writeFrame_writeAnswer (f : Frame) : (s.writeFrame f).writeAnswer = s.writeAnswer := rfl
@[simp] theorem writeFrame_schedule (f : Frame) : (s.writeFrame f).schedule = s.schedule := rfl
@[simp] theorem writeFrame_lines (f : Frame) : (s.writeFrame f).lines = s.lines := rfl
@[simp] theorem writeFrame_reads (f : Frame) : (s.writeFrame f).reads = s.reads := rfl
@[simp] theorem writeFrame_framesOut (f : Frame) : (s.writeFrame f).framesOut = s.framesOut ++ [f] := rfl
@[simp] theorem writeFrame_linesOut (f : Frame) : (s.writeFrame f).linesOut = s.linesOut := rfl
@[simp] theorem writeFrame_reports (f : Frame) : (s.writeFrame f).reports = s.reports := rfl
@[simp] theorem writeFrame_outResult (f : Frame) : (s.writeFrame f).outResult = some (.sent f) := rfl
@[simp] theorem writeFrame_inResult (f : Frame) : (s.writeFrame f).inResult = s.inResult := rfl

@[simp] theorem failWrite_params : s.failWrite.params = s.params := rfl
@[simp] theorem failWrite_debounce : s.failWrite.debounce = s.debounce := rfl
@[simp] theorem failWrite_inboundRunning : s.failWrite.inboundRunning = s.inboundRunning := rfl
@[simp] theorem failWrite_outboundRunning : s.failWrite.outboundRunning = false := rfl
@[simp] theorem failWrite_initSent : s.failWrite.initSent = s.initSent := rfl
@[simp] theorem failWrite_shutdownFlag : s.failWrite.shutdownFlag = s.shutdownFlag := rfl
@[simp] theorem failWrite_readInFlight : s.failWrite.readInFlight = s.readInFlight := rfl
@[simp] theorem failWrite_agent : s.failWrite.agent = s.agent := rfl
@[simp] theorem failWrite_now : s.failWrite.now = s.now := rfl
@[simp] theorem failWrite_writeAnswer : s.failWrite.writeAnswer = s.writeAnswer := rfl
@[simp] theorem failWrite_schedule : s.failWrite.schedule = s.schedule := rfl
@[simp] theorem failWrite_lines : s.failWrite.lines = s.lines := rfl
@[simp] theorem failWrite_reads : s.failWrite.reads = s.reads := rfl
@[simp] theorem failWrite_framesOut : s.failWrite.framesOut = s.framesOut := rfl
@[simp] theorem failWrite_linesOut : s.failWrite.linesOut = s.linesOut := rfl
@[simp] theorem failWrite_reports : s.failWrite.reports = s.reports := rfl
@[simp] theorem failWrite_outResult : s.failWrite.outResult = some .writeFailed := rfl
@[simp] theorem failWrite_inResult : s.failWrite.inResult = s.inResult := rfl

@[simp] theorem reject_params (e : ValidationError) : (s.reject e).params = s.params := rfl
@[simp] theorem reject_debounce (e : ValidationError) : (s.reject e).debounce = s.debounce := rfl
@[simp] theorem reject_inboundRunning (e : ValidationError) : (s.reject e).inboundRunning = s.inboundRunning := rfl
@[simp] theorem reject_outboundRunning (e : ValidationError) : (s.reject e).outboundRunning = s.outboundRunning := rfl
@[simp] theorem reject_initSent (e : ValidationError) : (s.reject e).initSent = s.initSent := rfl
@[simp] theorem reject_shutdownFlag (e : ValidationError) : (s.reject e).shutdownFlag = s.shutdownFlag := rfl
@[simp] theorem reject_readInFlight (e : ValidationError) : (s.reject e).readInFlight = s.readInFlight := rfl
@[simp] theorem reject_agent (e : ValidationError) : (s.reject e).agent = s.agent := rfl
@[simp] theorem reject_now (e : ValidationError) : (s.reject e).now = s.now := rfl
@[simp] theorem reject_writeAnswer (e : ValidationError) : (s.reject e).writeAnswer = s.writeAnswer := rfl
@[simp] theorem reject_schedule (e : ValidationError) : (s.reject e).schedule = s.schedule := rfl
@[simp] theorem reject_lines (e : ValidationError) : (s.reject e).lines = s.lines := rfl
@[simp] theorem reject_reads (e : ValidationError) : (s.reject e).reads = s.reads := rfl
@[simp] theorem reject_framesOut (e : ValidationError) : (s.reject e).framesOut = s.framesOut := rfl
@[simp] theorem reject_linesOut (e : ValidationError) : (s.reject e).linesOut = s.linesOut := rfl
@[simp] theorem reject_reports (e : ValidationError) : (s.reject e).reports = s.reports ++ [e] := rfl
@[simp] theorem reject_outResult (e : ValidationError) : (s.reject e).outResult = some (.rejected e) := rfl
@[simp] theorem reject_inResult (e : ValidationError) : (s.reject e).inResult = s.inResult := rfl

@[simp] theorem lineOut_params (t : Text) : (s.lineOut t).params = s.params := rfl
@[simp] theorem lineOut_debounce (t : Text) : (s.lineOut t).debounce = s.debounce := rfl
@[simp] theorem lineOut_inboundRunning (t : Text) : (s.lineOut t).inboundRunning = s.inboundRunning := rfl
@[simp] theorem lineOut_outboundRunning (t : Text) : (s.lineOut t).outboundRunning = s.outboundRunning := rfl
@[simp] theorem lineOut_initSent (t : Text) : (s.lineOut t).initSent = s.initSent := rfl
@[simp] theorem lineOut_shutdownFlag (t : Text) : (s.lineOut t).shutdownFlag = s.shutdownFlag := rfl
@[simp] theorem lineOut_readInFlight (t : Text) : (s.lineOut t).readInFlight = s.readInFlight := rfl
@[simp] theorem lineOut_agent (t : Text) : (s.lineOut t).agent = s.agent := rfl
@[simp] theorem lineOut_now (t : Text) : (s.lineOut t).now = s.now := rfl
@[simp] theorem lineOut_writeAnswer (t : Text) : (s.lineOut t).writeAnswer = s.writeAnswer := rfl
@[simp] theorem lineOut_schedule (t : Text) : (s.lineOut t).schedule = s.schedule := rfl
@[simp] theorem lineOut_lines (t : Text) : (s.lineOut t).lines = s.lines := rfl
@[simp] theorem lineOut_reads (t : Text) : (s.lineOut t).reads = s.reads := rfl
@[simp] theorem lineOut_framesOut (t : Text) : (s.lineOut t).framesOut = s.framesOut := rfl
@[simp] theorem lineOut_linesOut (t : Text) : (s.lineOut t).linesOut = s.linesOut ++ [t ++ ['\n']] := rfl
@[simp] theorem lineOut_reports (t : Text) : (s.lineOut t).reports = s.reports := rfl
@[simp] theorem lineOut_outResult (t : Text) : (s.lineOut t).outResult = s.outResult := rfl
@[simp] theorem lineOut_inResult (t : Text) : (s.lineOut t).inResult = s.inResult := rfl

@[simp] theorem finishInbound_params (o : InboundOutcome) : (s.finishInbound o).params = s.params := rfl
@[simp] theorem finishInbound_debounce (o : InboundOutcome) : (s.finishInbound o).debounce = s.debounce := rfl
@[simp] theorem finishInbound_inboundRunning (o : InboundOutcome) : (s.finishInbound o).inboundRunning = s.inboundRunning := rfl
@[simp] theorem finishInbound_outboundRunning (o : InboundOutcome) : (s.finishInbound o).outboundRunning = s.outboundRunning := rfl
@[simp] theorem finishInbound_initSent (o : InboundOutcome) : (s.finishInbound o).initSent = s.initSent := rfl
@[simp] theorem finishInbound_shutdownFlag (o : InboundOutcome) : (s.finishInbound o).shutdownFlag = s.shutdownFlag := rfl
@[simp] theorem finishInbound_readInFlight (o : InboundOutcome) : (s.finishInbound o).readInFlight = s.readInFlight := rfl
@[simp] theorem finishInbound_agent (o : InboundOutcome) : (s.finishInbound o).agent = s.agent := rfl
@[simp] theorem finishInbound_now (o : InboundOutcome) : (s.finishInbound o).now = s.now := rfl
@[simp] theorem finishInbound_writeAnswer (o : InboundOutcome) : (s.finishInbound o).writeAnswer = s.writeAnswer := rfl
@[simp] theorem finishInbound_schedule (o : InboundOutcome) : (s.finishInbound o).schedule = s.schedule := rfl
@[simp] theorem finishInbound_lines (o : InboundOutcome) : (s.finishInbound o).lines = s.lines := rfl
@[simp] theorem finishInbound_reads (o : InboundOutcome) : (s.finishInbound o).reads = s.reads := rfl
@[simp] theorem finishInbound_framesOut (o : InboundOutcome) : (s.finishInbound o).framesOut = s.framesOut := rfl
@[simp] theorem finishInbound_linesOut (o : InboundOutcome) : (s.finishInbound o).linesOut = s.linesOut := rfl
@[simp] theorem finishInbound_reports (o : InboundOutcome) : (s.finishInbound o).reports = s.reports := rfl
@[simp] theorem finishInbound_outResult (o : InboundOutcome) : (s.finishInbound o).outResult = s.outResult := rfl
@[simp] theorem finishInbound_inResult (o : InboundOutcome) : (s.finishInbound o).inResult = some o := rfl

@[simp] theorem setDebounce_params (d : DebounceState) : (s.setDebounce d).params = s.params := rfl
@[simp] theorem setDebounce_debounce (d : DebounceState) : (s.setDebounce d).debounce = d := rfl
@[simp] theorem setDebounce_inboundRunning (d : DebounceState) : (s.setDebounce d).inboundRunning = s.inboundRunning := rfl
@[simp] theorem setDebounce_outboundRunning (d : DebounceState) : (s.setDebounce d).outboundRunning = s.outboundRunning := rfl
@[simp] theorem setDebounce_initSent (d : DebounceState) : (s.setDebounce d).initSent = s.initSent := rfl
@[simp] theorem setDebounce_shutdownFlag (d : DebounceState) : (s.setDebounce d).shutdownFlag = s.shutdownFlag := rfl
@[simp] theorem setDebounce_readInFlight (d : DebounceState) : (s.setDebounce d).readInFlight = s.readInFlight := rfl
@[simp] theorem setDebounce_agent (d : DebounceState) : (s.setDebounce d).agent = s.agent := rfl
@[simp] theorem setDebounce_now (d : DebounceState) : (s.setDebounce d).now = s.now := rfl
@[simp] theorem setDebounce_writeAnswer (d : DebounceState) : (s.setDebounce d).writeAnswer = s.writeAnswer := rfl
@[simp] theorem setDebounce_schedule (d : DebounceState) : (s.setDebounce d).schedule = s.schedule := rfl
@[simp] theorem setDebounce_lines (d : DebounceState) : (s.setDebounce d).lines = s.lines := rfl
@[simp] theorem setDebounce_reads (d : DebounceState) : (s.setDebounce d).reads = s.reads := rfl
@[simp] theorem setDebounce_framesOut (d : DebounceState) : (s.setDebounce d).framesOut = s.framesOut := rfl
@[simp] theorem setDebounce_linesOut (d : DebounceState) : (s.setDebounce d).linesOut = s.linesOut := rfl
@[simp] theorem setDebounce_reports (d : DebounceState) : (s.setDebounce d).reports = s.reports := rfl
@[simp] theorem setDebounce_outResult (d : DebounceState) : (s.setDebounce d).outResult = s.outResult := rfl
@[simp] theorem setDebounce_inResult (d : DebounceState) : (s.setDebounce d).inResult = s.inResult := rfl

@[simp] theorem skipLine_params : (s.skipLine).params = s.params := rfl
@[simp] theorem skipLine_debounce : (s.skipLine).debounce = s.debounce := rfl
@[simp] theorem skipLine_inboundRunning : (s.skipLine).inboundRunning = s.inboundRunning := rfl
@[simp] theorem skipLine_outboundRunning : (s.skipLine).outboundRunning = s.outboundRunning := rfl
@[simp] theorem skipLine_initSent : (s.skipLine).initSent = s.initSent := rfl
@[simp] theorem skipLine_shutdownFlag : (s.skipLine).shutdownFlag = s.shutdownFlag := rfl
@[simp] theorem skipLine_readInFlight : (s.skipLine).readInFlight = s.readInFlight := rfl
@[simp] theorem skipLine_agent : (s.skipLine).agent = s.agent := rfl
@[simp] theorem skipLine_now : (s.skipLine).now = s.now := rfl
@[simp] theorem skipLine_writeAnswer : (s.skipLine).writeAnswer = s.writeAnswer := rfl
@[simp] theorem skipLine_schedule : (s.skipLine).schedule = s.schedule := rfl
@[simp] theorem skipLine_lines : (s.skipLine).lines = s.lines := rfl
@[simp] theorem skipLine_reads : (s.skipLine).reads = s.reads := rfl
@[simp] theorem skipLine_framesOut : (s.skipLine).framesOut = s.framesOut := rfl
@[simp] theorem skipLine_linesOut : (s.skipLine).linesOut = s.linesOut := rfl
@[simp] theorem skipLine_reports : (s.skipLine).reports = s.reports := rfl
@[simp] theorem skipLine_outResult : (s.skipLine).outResult = some .noOp := rfl
@[simp] theorem skipLine_inResult : (s.skipLine).inResult = s.inResult := rfl

@[simp] theorem endLines_params : (s.endLines).params = s.params := rfl
@[simp] theorem endLines_debounce : (s.endLines).debounce = s.debounce := rfl
@[simp] theorem endLines_inboundRunning : (s.endLines).inboundRunning = s.inboundRunning := rfl
@[simp] theorem endLines_outboundRunning : (s.endLines).outboundRunning = false := rfl
@[simp] theorem endLines_initSent : (s.endLines).initSent = s.initSent := rfl
@[simp] theorem endLines_shutdownFlag : (s.endLines).shutdownFlag = s.shutdownFlag := rfl
@[simp] theorem endLines_readInFlight : (s.endLines).readInFlight = s.readInFlight := rfl
@[simp] theorem endLines_agent : (s.endLines).agent = s.agent := rfl
@[simp] theorem endLines_now : (s.endLines).now = s.now := rfl
@[simp] theorem endLines_writeAnswer : (s.endLines).writeAnswer = s.writeAnswer := rfl
@[simp] theorem endLines_schedule : (s.endLines).schedule = s.schedule := rfl
@[simp] theorem endLines_lines : (s.endLines).lines = s.lines := rfl
@[simp] theorem endLines_reads : (s.endLines).reads = s.reads := rfl
@[simp] theorem endLines_framesOut : (s.endLines).framesOut = s.framesOut := rfl
@[simp] theorem endLines_linesOut : (s.endLines).linesOut = s.linesOut := rfl
@[simp] theorem endLines_reports : (s.endLines).reports = s.reports := rfl
@[simp] theorem endLines_outResult : (s.endLines).outResult = some .ended := rfl
@[simp] theorem endLines_inResult : (s.endLines).inResult = s.inResult := rfl

@[simp] theorem halt_params : (s.halt).params = s.params := rfl
@[simp] theorem halt_debounce : (s.halt).debounce = s.debounce := rfl
@[simp] theorem halt_inboundRunning : (s.halt).inboundRunning = false := rfl
@[simp] theorem halt_outboundRunning : (s.halt).outboundRunning = s.outboundRunning := rfl
@[simp] theorem halt_initSent : (s.halt).initSent = s.initSent := rfl
@[simp] theorem halt_shutdownFlag : (s.halt).shutdownFlag = s.shutdownFlag := rfl
@[simp] theorem halt_readInFlight : (s.halt).readInFlight = s.readInFlight := rfl
@[simp] theorem halt_agent : (s.halt).agent = s.agent := rfl
@[simp] theorem halt_now : (s.halt).now = s.now := rfl
@[simp] theorem halt_writeAnswer : (s.halt).writeAnswer = s.writeAnswer := rfl
@[simp] theorem halt_schedule : (s.halt).schedule = s.schedule := rfl
@[simp] theorem halt_lines : (s.halt).lines = s.lines := rfl
@[simp] theorem halt_reads : (s.halt).reads = s.reads := rfl
@[simp] theorem halt_framesOut : (s.halt).framesOut = s.framesOut := rfl
@[simp] theorem halt_linesOut : (s.halt).linesOut = s.linesOut := rfl
@[simp] theorem halt_reports : (s.halt).reports = s.reports := rfl
@[simp] theorem halt_outResult : (s.halt).outResult = s.outResult := rfl
@[simp] theorem halt_inResult : (s.halt).inResult = some .halted := rfl

@[simp] theorem exitLoop_params : (s.exitLoop).params = s.params := rfl
@[simp] theorem exitLoop_debounce : (s.exitLoop).debounce = s.debounce := rfl
@[simp] theorem exitLoop_inboundRunning : (s.exitLoop).inboundRunning = false := rfl
@[simp] theorem exitLoop_outboundRunning : (s.exitLoop).outboundRunning = s.outboundRunning := rfl
@[simp] theorem exitLoop_initSent : (s.exitLoop).initSent = s.initSent := rfl
@[simp] theorem exitLoop_shutdownFlag : (s.exitLoop).shutdownFlag = s.shutdownFlag := rfl
@[simp] theorem exitLoop_readInFlight : (s.exitLoop).readInFlight = s.readInFlight := rfl
@[simp] theorem exitLoop_agent : (s.exitLoop).agent = s.agent := rfl
@[simp] theorem exitLoop_now : (s.exitLoop).now = s.now := rfl
@[simp] theorem exitLoop_writeAnswer : (s.exitLoop).writeAnswer = s.writeAnswer := rfl
@[simp] theorem exitLoop_schedule : (s.exitLoop).schedule = s.schedule := rfl
@[simp] theorem exitLoop_lines : (s.exitLoop).lines = s.lines := rfl
@[simp] theorem exitLoop_reads : (s.exitLoop).reads = s.reads := rfl
@[simp] theorem exitLoop_framesOut : (s.exitLoop).framesOut = s.framesOut := rfl
@[simp] theorem exitLoop_linesOut : (s.exitLoop).linesOut = s.linesOut := rfl
@[simp] theorem exitLoop_reports : (s.exitLoop).reports = s.reports := rfl
@[simp] theorem exitLoop_outResult : (s.exitLoop).outResult = s.outResult := rfl
@[simp] theorem exitLoop_inResult : (s.exitLoop).inResult = s.inResult := rfl

@[simp] theorem takeTurn_params (ts : List Turn) : (s.takeTurn ts).params = s.params := rfl
@[simp] theorem takeTurn_debounce (ts : List Turn) : (s.takeTurn ts).debounce = s.debounce := rfl
@[simp] theorem takeTurn_inboundRunning (ts : List Turn) : (s.takeTurn ts).inboundRunning = s.inboundRunning := rfl
@[simp] theorem takeTurn_outboundRunning (ts : List Turn) : (s.takeTurn ts).outboundRunning = s.outboundRunning := rfl
@[simp] theorem takeTurn_initSent (ts : List Turn) : (s.takeTurn ts).initSent = s.initSent := rfl
@[simp] theorem takeTurn_shutdownFlag (ts : List Turn) : (s.takeTurn ts).shutdownFlag = s.shutdownFlag := rfl
@[simp] theorem takeTurn_readInFlight (ts : List Turn) : (s.takeTurn ts).readInFlight = s.readInFlight := rfl
@[simp] theorem takeTurn_agent (ts : List Turn) : (s.takeTurn ts).agent = s.agent := rfl
@[simp] theorem takeTurn_now (ts : List Turn) : (s.takeTurn ts).now = s.now := rfl
@[simp] theorem takeTurn_writeAnswer (ts : List Turn) : (s.takeTurn ts).writeAnswer = s.writeAnswer := rfl
@[simp] theorem takeTurn_schedule (ts : List Turn) : (s.takeTurn ts).schedule = ts := rfl
@[simp] theorem takeTurn_lines (ts : List Turn) : (s.takeTurn ts).lines = s.lines := rfl
@[simp] theorem takeTurn_reads (ts : List Turn) : (s.takeTurn ts).reads = s.reads := rfl
@[simp] theorem takeTurn_framesOut (ts : List Turn) : (s.takeTurn ts).framesOut = s.framesOut := rfl
@[simp] theorem takeTurn_linesOut (ts : List Turn) : (s.takeTurn ts).linesOut = s.linesOut := rfl
@[simp] theorem takeTurn_reports (ts : List Turn) : (s.takeTurn ts).reports = s.reports := rfl
@[simp] theorem takeTurn_outResult (ts : List Turn) : (s.takeTurn ts).outResult = s.outResult := rfl
@[simp] theorem takeTurn_inResult (ts : List Turn) : (s.takeTurn ts).inResult = s.inResult := rfl

@[simp] theorem beginLine_params (ls : List LineInput) (a : WriteAnswer) : (s.beginLine ls a).params = s.params := rfl
@[simp] theorem beginLine_debounce (ls : List LineInput) (a : WriteAnswer) : (s.beginLine ls a).debounce = s.debounce := rfl
@[simp] theorem beginLine_inboundRunning (ls : List LineInput) (a : WriteAnswer) : (s.beginLine ls a).inboundRunning = s.inboundRunning := rfl
@[simp] theorem beginLine_outboundRunning (ls : List LineInput) (a : WriteAnswer) : (s.beginLine ls a).outboundRunning = s.outboundRunning := rfl
@[simp] theorem beginLine_initSent (ls : List LineInput) (a : WriteAnswer) : (s.beginLine ls a).initSent = s.initSent := rfl
@[simp] theorem beginLine_shutdownFlag (ls : List LineInput) (a : WriteAnswer) : (s.beginLine ls a).shutdownFlag = s.shutdownFlag := rfl
@[simp] theorem beginLine_readInFlight (ls : List LineInput) (a : WriteAnswer) : (s.beginLine ls a).readInFlight = s.readInFlight := rfl
@[simp] theorem beginLine_agent (ls : List LineInput) (a : WriteAnswer) : (s.beginLine ls a).agent = .outbound := rfl
@[simp] theorem beginLine_now (ls : List LineInput) (a : WriteAnswer) : (s.beginLine ls a).now = s.now := rfl
@[simp] theorem beginLine_writeAnswer (ls : List LineInput) (a : WriteAnswer) : (s.beginLine ls a).writeAnswer = a := rfl
@[simp] theorem beginLine_schedule (ls : List LineInput) (a : WriteAnswer) : (s.beginLine ls a).schedule = s.schedule := rfl
@[simp] theorem beginLine_lines (ls : List LineInput) (a : WriteAnswer) : (s.beginLine ls a).lines = ls := rfl
@[simp] theorem beginLine_reads (ls : List LineInput) (a : WriteAnswer) : (s.beginLine ls a).reads = s.reads := rfl
@[simp] theorem beginLine_framesOut (ls : List LineInput) (a : WriteAnswer) : (s.beginLine ls a).framesOut = s.framesOut := rfl
@[simp] theorem beginLine_linesOut (ls : List LineInput) (a : WriteAnswer) : (s.beginLine ls a).linesOut = s.linesOut := rfl
@[simp] theorem beginLine_reports (ls : List LineInput) (a : WriteAnswer) : (s.beginLine ls a).reports = s.reports := rfl
@[simp] theorem beginLine_outResult (ls : List LineInput) (a : WriteAnswer) : (s.beginLine ls a).outResult = s.outResult := rfl
@[simp] theorem beginLine_inResult (ls : List LineInput) (a : WriteAnswer) : (s.beginLine ls a).inResult = s.inResult := rfl

@[simp] theorem beginRead_params (rs : List ReadInput) (t : Int) : (s.beginRead rs t).params = s.params := rfl
@[simp] theorem beginRead_debounce (rs : List ReadInput) (t : Int) : (s.beginRead rs t).debounce = s.debounce := rfl
@[simp] theorem beginRead_inboundRunning (rs : List ReadInput) (t : Int) : (s.beginRead rs t).inboundRunning = s.inboundRunning := rfl
@[simp] theorem beginRead_outboundRunning (rs : List ReadInput) (t : Int) : (s.beginRead rs t).outboundRunning = s.outboundRunning := rfl
@[simp] theorem beginRead_initSent (rs : List ReadInput) (t : Int) : (s.beginRead rs t).initSent = s.initSent := rfl
@[simp] theorem beginRead_shutdownFlag (rs : List ReadInput) (t : Int) : (s.beginRead rs t).shutdownFlag = s.shutdownFlag := rfl
@[simp] theorem beginRead_readInFlight (rs : List ReadInput) (t : Int) : (s.beginRead rs t).readInFlight = false := rfl
@[simp] theorem beginRead_agent (rs : List ReadInput) (t : Int) : (s.beginRead rs t).agent = .inbound := rfl
@[simp] theorem beginRead_now (rs : List ReadInput) (t : Int) : (s.beginRead rs t).now = t := rfl
@[simp] theorem beginRead_writeAnswer (rs : List ReadInput) (t : Int) : (s.beginRead rs t).writeAnswer = s.writeAnswer := rfl
@[simp] theorem beginRead_schedule (rs : List ReadInput) (t : Int) : (s.beginRead rs t).schedule = s.schedule := rfl
@[simp] theorem beginRead_lines (rs : List ReadInput) (t : Int) : (s.beginRead rs t).lines = s.lines := rfl
@[simp] theorem beginRead_reads (rs : List ReadInput) (t : Int) : (s.beginRead rs t).reads = rs := rfl
@[simp] theorem beginRead_framesOut (rs : List ReadInput) (t : Int) : (s.beginRead rs t).framesOut = s.framesOut := rfl
@[simp] theorem beginRead_linesOut (rs : List ReadInput) (t : Int) : (s.beginRead rs t).linesOut = s.linesOut := rfl
@[simp] theorem beginRead_reports (rs : List ReadInput) (t : Int) : (s.beginRead rs t).reports = s.reports := rfl
@[simp] theorem beginRead_outResult (rs : List ReadInput) (t : Int) : (s.beginRead rs t).outResult = s.outResult := rfl
@[simp] theorem beginRead_inResult (rs : List ReadInput) (t : Int) : (s.beginRead rs t).inResult = s.inResult := rfl

@[simp] theorem sendInit_params : (s.sendInit).params = s.params := rfl
@[simp] theorem sendInit_debounce : (s.sendInit).debounce = s.debounce := rfl
@[simp] theorem sendInit_inboundRunning : (s.sendInit).inboundRunning = s.inboundRunning := rfl
@[simp] theorem sendInit_outboundRunning : (s.sendInit).outboundRunning = s.outboundRunning := rfl
@[simp] theorem sendInit_initSent : (s.sendInit).initSent = true := rfl
@[simp] theorem sendInit_shutdownFlag : (s.sendInit).shutdownFlag = s.shutdownFlag := rfl
@[simp] theorem sendInit_readInFlight : (s.sendInit).readInFlight = s.readInFlight := rfl
@[simp] theorem sendInit_agent : (s.sendInit).agent = s.agent := rfl
@[simp] theorem sendInit_now : (s.sendInit).now = s.now := rfl
@[simp] theorem sendInit_writeAnswer : (s.sendInit).writeAnswer = s.writeAnswer := rfl
@[simp] theorem sendInit_schedule : (s.sendInit).schedule = s.schedule := rfl
@[simp] theorem sendInit_lines : (s.sendInit).lines = s.lines := rfl
@[simp] theorem sendInit_reads : (s.sendInit).reads = s.reads := rfl
@[simp] theorem sendInit_framesOut : (s.sendInit).framesOut = s.framesOut := rfl
@[simp] theorem sendInit_linesOut : (s.sendInit).linesOut = s.linesOut := rfl
@[simp] theorem sendInit_reports : (s.sendInit).reports = s.reports := rfl
@[simp] theorem sendInit_outResult : (s.sendInit).outResult = s.outResult := rfl
@[simp] theorem sendInit_inResult : (s.sendInit).inResult = s.inResult := rfl

@[simp] theorem restart_params : (s.restart).params = s.params := rfl
@[simp] theorem restart_debounce : (s.restart).debounce = ⟨[], Config.resetTimestamp⟩ := rfl
@[simp] theorem restart_inboundRunning : (s.restart).inboundRunning = true := rfl
@[simp] theorem restart_outboundRunning : (s.restart).outboundRunning = true := rfl
@[simp] theorem restart_initSent : (s.restart).initSent = false := rfl
@[simp] theorem restart_shutdownFlag : (s.restart).shutdownFlag = false := rfl
@[simp] theorem restart_readInFlight : (s.restart).readInFlight = false := rfl
@[simp] theorem restart_agent : (s.restart).agent = s.agent := rfl
@[simp] theorem restart_now : (s.restart).now = s.now := rfl
@[simp] theorem restart_writeAnswer : (s.restart).writeAnswer = s.writeAnswer := rfl
@[simp] theorem restart_schedule : (s.restart).schedule = s.schedule := rfl
@[simp] theorem restart_lines : (s.restart).lines = s.lines := rfl
@[simp] theorem restart_reads : (s.restart).reads = s.reads := rfl
@[simp] theorem restart_framesOut : (s.restart).framesOut = s.framesOut := rfl
@[simp] theorem restart_linesOut : (s.restart).linesOut = s.linesOut := rfl
@[simp] theorem restart_reports : (s.restart).reports = s.reports := rfl
@[simp] theorem restart_outResult : (s.restart).outResult = s.outResult := rfl
@[simp] theorem restart_inResult : (s.restart).inResult = s.inResult := rfl

@[simp] theorem frameOut_params (f : Frame) : (s.frameOut f).params = s.params := by
  cases h : s.writeAnswer <;> simp [State.frameOut, h]
@[simp] theorem frameOut_debounce (f : Frame) : (s.frameOut f).debounce = s.debounce := by
  cases h : s.writeAnswer <;> simp [State.frameOut, h]
@[simp] theorem frameOut_inboundRunning (f : Frame) : (s.frameOut f).inboundRunning = s.inboundRunning := by
  cases h : s.writeAnswer <;> simp [State.frameOut, h]
@[simp] theorem frameOut_initSent (f : Frame) : (s.frameOut f).initSent = s.initSent := by
  cases h : s.writeAnswer <;> simp [State.frameOut, h]
@[simp] theorem frameOut_shutdownFlag (f : Frame) : (s.frameOut f).shutdownFlag = s.shutdownFlag := by
  cases h : s.writeAnswer <;> simp [State.frameOut, h]
@[simp] theorem frameOut_readInFlight (f : Frame) : (s.frameOut f).readInFlight = s.readInFlight := by
  cases h : s.writeAnswer <;> simp [State.frameOut, h]
@[simp] theorem frameOut_agent (f : Frame) : (s.frameOut f).agent = s.agent := by
  cases h : s.writeAnswer <;> simp [State.frameOut, h]
@[simp] theorem frameOut_now (f : Frame) : (s.frameOut f).now = s.now := by
  cases h : s.writeAnswer <;> simp [State.frameOut, h]
@[simp] theorem frameOut_writeAnswer (f : Frame) : (s.frameOut f).writeAnswer = s.writeAnswer := by
  cases h : s.writeAnswer <;> simp [State.frameOut, h]
@[simp] theorem frameOut_schedule (f : Frame) : (s.frameOut f).schedule = s.schedule := by
  cases h : s.writeAnswer <;> simp [State.frameOut, h]
@[simp] theorem frameOut_lines (f : Frame) : (s.frameOut f).lines = s.lines := by
  cases h : s.writeAnswer <;> simp [State.frameOut, h]
@[simp] theorem frameOut_reads (f : Frame) : (s.frameOut f).reads = s.reads := by
  cases h : s.writeAnswer <;> simp [State.frameOut, h]
@[simp] theorem frameOut_linesOut (f : Frame) : (s.frameOut f).linesOut = s.linesOut := by
  cases h : s.writeAnswer <;> simp [State.frameOut, h]
@[simp] theorem frameOut_reports (f : Frame) : (s.frameOut f).reports = s.reports := by
  cases h : s.writeAnswer <;> simp [State.frameOut, h]
@[simp] theorem frameOut_inResult (f : Frame) : (s.frameOut f).inResult = s.inResult := by
  cases h : s.writeAnswer <;> simp [State.frameOut, h]

@[simp] theorem requestShutdown_params (b : Bool) : (s.requestShutdown b).params = s.params := by
  cases h : s.shutdownFlag <;> simp [State.requestShutdown, h]
@[simp] theorem requestShutdown_debounce (b : Bool) : (s.requestShutdown b).debounce = s.debounce := by
  cases h : s.shutdownFlag <;> simp [State.requestShutdown, h]
@[simp] theorem requestShutdown_inboundRunning (b : Bool) : (s.requestShutdown b).inboundRunning = s.inboundRunning := by
  cases h : s.shutdownFlag <;> simp [State.requestShutdown, h]
@[simp] theorem requestShutdown_outboundRunning (b : Bool) : (s.requestShutdown b).outboundRunning = s.outboundRunning := by
  cases h : s.shutdownFlag <;> simp [State.requestShutdown, h]
@[simp] theorem requestShutdown_initSent (b : Bool) : (s.requestShutdown b).initSent = s.initSent := by
  cases h : s.shutdownFlag <;> simp [State.requestShutdown, h]
@[simp] theorem requestShutdown_agent (b : Bool) : (s.requestShutdown b).agent = s.agent := by
  cases h : s.shutdownFlag <;> simp [State.requestShutdown, h]
@[simp] theorem requestShutdown_now (b : Bool) : (s.requestShutdown b).now = s.now := by
  cases h : s.shutdownFlag <;> simp [State.requestShutdown, h]
@[simp] theorem requestShutdown_writeAnswer (b : Bool) : (s.requestShutdown b).writeAnswer = s.writeAnswer := by
  cases h : s.shutdownFlag <;> simp [State.requestShutdown, h]
@[simp] theorem requestShutdown_schedule (b : Bool) : (s.requestShutdown b).schedule = s.schedule := by
  cases h : s.shutdownFlag <;> simp [State.requestShutdown, h]
@[simp] theorem requestShutdown_lines (b : Bool) : (s.requestShutdown b).lines = s.lines := by
  cases h : s.shutdownFlag <;> simp [State.requestShutdown, h]
@[simp] theorem requestShutdown_reads (b : Bool) : (s.requestShutdown b).reads = s.reads := by
  cases h : s.shutdownFlag <;> simp [State.requestShutdown, h]
@[simp] theorem requestShutdown_framesOut (b : Bool) : (s.requestShutdown b).framesOut = s.framesOut := by
  cases h : s.shutdownFlag <;> simp [State.requestShutdown, h]
@[simp] theorem requestShutdown_linesOut (b : Bool) : (s.requestShutdown b).linesOut = s.linesOut := by
  cases h : s.shutdownFlag <;> simp [State.requestShutdown, h]
@[simp] theorem requestShutdown_reports (b : Bool) : (s.requestShutdown b).reports = s.reports := by
  cases h : s.shutdownFlag <;> simp [State.requestShutdown, h]
@[simp] theorem requestShutdown_outResult (b : Bool) : (s.requestShutdown b).outResult = s.outResult := by
  cases h : s.shutdownFlag <;> simp [State.requestShutdown, h]
@[simp] theorem requestShutdown_inResult (b : Bool) : (s.requestShutdown b).inResult = s.inResult := by
  cases h : s.shutdownFlag <;> simp [State.requestShutdown, h]

@[simp] theorem supply_params (ts : List Turn) (ls : List LineInput) (rs : List ReadInput) :
    (s.supply ts ls rs).params = s.params := rfl
@[simp] theorem supply_debounce (ts : List Turn) (ls : List LineInput) (rs : List ReadInput) :
    (s.supply ts ls rs).debounce = s.debounce := rfl
@[simp] theorem supply_inboundRunning (ts : List Turn) (ls : List LineInput) (rs : List ReadInput) :
    (s.supply ts ls rs).inboundRunning = s.inboundRunning := rfl
@[simp] theorem supply_outboundRunning (ts : List Turn) (ls : List LineInput) (rs : List ReadInput) :
    (s.supply ts ls rs).outboundRunning = s.outboundRunning := rfl
@[simp] theorem supply_initSent (ts : List Turn) (ls : List LineInput) (rs : List ReadInput) :
    (s.supply ts ls rs).initSent = s.initSent := rfl
@[simp] theorem supply_shutdownFlag (ts : List Turn) (ls : List LineInput) (rs : List ReadInput) :
    (s.supply ts ls rs).shutdownFlag = s.shutdownFlag := rfl
@[simp] theorem supply_readInFlight (ts : List Turn) (ls : List LineInput) (rs : List ReadInput) :
    (s.supply ts ls rs).readInFlight = s.readInFlight := rfl
@[simp] theorem supply_agent (ts : List Turn) (ls : List LineInput) (rs : List ReadInput) :
    (s.supply ts ls rs).agent = s.agent := rfl
@[simp] theorem supply_now (ts : List Turn) (ls : List LineInput) (rs : List ReadInput) :
    (s.supply ts ls rs).now = s.now := rfl
@[simp] theorem supply_writeAnswer (ts : List Turn) (ls : List LineInput) (rs : List ReadInput) :
    (s.supply ts ls rs).writeAnswer = s.writeAnswer := rfl
@[simp] theorem supply_schedule (ts : List Turn) (ls : List LineInput) (rs : List ReadInput) :
    (s.supply ts ls rs).schedule = s.schedule ++ ts := rfl
@[simp] theorem supply_lines (ts : List Turn) (ls : List LineInput) (rs : List ReadInput) :
    (s.supply ts ls rs).lines = s.lines ++ ls := rfl
@[simp] theorem supply_reads (ts : List Turn) (ls : List LineInput) (rs : List ReadInput) :
    (s.supply ts ls rs).reads = s.reads ++ rs := rfl
@[simp] theorem supply_framesOut (ts : List Turn) (ls : List LineInput) (rs : List ReadInput) :
    (s.supply ts ls rs).framesOut = s.framesOut := rfl
@[simp] theorem supply_linesOut (ts : List Turn) (ls : List LineInput) (rs : List ReadInput) :
    (s.supply ts ls rs).linesOut = s.linesOut := rfl
@[simp] theorem supply_reports (ts : List Turn) (ls : List LineInput) (rs : List ReadInput) :
    (s.supply ts ls rs).reports = s.reports := rfl
@[simp] theorem supply_outResult (ts : List Turn) (ls : List LineInput) (rs : List ReadInput) :
    (s.supply ts ls rs).outResult = s.outResult := rfl
@[simp] theorem supply_inResult (ts : List Turn) (ls : List LineInput) (rs : List ReadInput) :
    (s.supply ts ls rs).inResult = s.inResult := rfl

end Sys2Proof.Machine
end

