-- ==== Sys2Proof/Laws/Tables.lean ====
section
/-! SUPPORT. Facts of the tables: the admissibility check, the classification, and what rows can express. -/

namespace Sys2Proof

@[simp] theorem Kind.mem_all (k : Kind) : k ∈ Kind.all := by cases k <;> decide

theorem allDistinct_iff_nodup {w : Nat} (xs : List (BitVec w)) : allDistinct xs = true ↔ xs.Nodup := by
  induction xs with
  | nil => simp [allDistinct]
  | cons x xs ih =>
    simp only [allDistinct, Bool.and_eq_true, List.all_eq_true, bne_iff_ne, List.nodup_cons, ih]
    exact and_congr_left fun _ => ⟨fun h hx => h x hx rfl, fun h y hy e => h (e ▸ hy)⟩

theorem toList_nodup_iff {α : Type} {n : Nat} (v : Vector α n) :
    v.toList.Nodup ↔ ∀ i j : Fin n, v[i] = v[j] → i = j := by
  rw [List.nodup_iff_injective_get]
  constructor
  · intro h i j e
    have := @h ⟨i, by simp⟩ ⟨j, by simp⟩ (by simpa using e)
    exact Fin.ext (by simpa using this)
  · intro h i j e
    have := h ⟨i, by simpa using i.2⟩ ⟨j, by simpa using j.2⟩ (by simpa using e)
    exact Fin.ext (by simpa using this)

theorem Kind.index_inj {k j : Kind} (h : k.index = j.index) : k = j := by
  cases k <;> cases j <;> first | rfl | exact absurd h (by decide)

theorem Kind.index_surj (i : Fin 8) : ∃ k : Kind, k.index = i := by
  fin_cases i
  exacts [⟨.on, rfl⟩, ⟨.off, rfl⟩, ⟨.dim, rfl⟩, ⟨.bright, rfl⟩, ⟨.up, rfl⟩, ⟨.down, rfl⟩, ⟨.left, rfl⟩, ⟨.right, rfl⟩]

/-- The check `step` makes answers `true` exactly on the admissible profiles (10_state.md R22). -/
theorem Profile.admissible_iff (p : Profile) : p.admissible = true ↔ p.Admissible := by
  simp only [Profile.admissible, Bool.and_eq_true, allDistinct_iff_nodup, toList_nodup_iff, List.all_eq_true,
    beq_iff_eq]
  constructor
  · rintro ⟨⟨⟨hh, hu⟩, hc⟩, hk⟩
    exact ⟨⟨hh, hu, fun k _ j _ e => Kind.index_inj (hc _ _ e)⟩, hk⟩
  · rintro ⟨⟨hh, hu, hc⟩, hk⟩
    refine ⟨⟨⟨hh, hu⟩, fun i j e => ?_⟩, hk⟩
    obtain ⟨k, rfl⟩ := Kind.index_surj i
    obtain ⟨l, rfl⟩ := Kind.index_surj j
    exact congrArg _ (hc k (by simp) l (by simp) e)

/-- A4 of an admissible profile, for any kind. -/
theorem Profile.Admissible.isPanTiltCode_cmd {p : Profile} (h : p.Admissible) (k : Kind) :
    isPanTiltCode (p.cmd k) = k.isPanTilt := h.2 k (by simp)

@[simp] theorem Command.instr_command (c : Command) : c.instr.command = c := by
  rcases c with ⟨k, h, u⟩; cases k <;> rfl

@[simp] theorem Instr.command_instr (i : Instr) : i.command.instr = i := by cases i <;> rfl

/-- The rows of a function on 12-bit codes, one a code. -/
def rowsOf (f : Nat → Option UnitEntry) : Nat → List UnitRow
  | 0 => []
  | n + 1 => match f n with
    | some e => ⟨0xFFFF, BitVec.ofNat 16 n, e⟩ :: rowsOf f n
    | none => rowsOf f n

/-- Rows can express every UNIT_DECODE of 10_state.md A7: any function of the codes 0..0x0FFF to a unit or failure. -/
theorem decodeUnitRows_rowsOf (f : Nat → Option UnitEntry) (n : Nat) (hn : n ≤ 0x1000) (c : Code) (hc : c.toNat < n) :
    decodeUnitRows (rowsOf f n) c = f c.toNat := by
  have miss : ∀ m, m ≤ c.toNat → decodeUnitRows (rowsOf f m) c = none := by
    intro m
    induction m with
    | zero => intro _; rfl
    | succ m ih =>
      intro hm
      have hne : ¬ c &&& 0xFFFF = BitVec.ofNat 16 m := by
        rw [show (0xFFFF : Code) = BitVec.allOnes 16 from rfl, BitVec.and_allOnes]
        intro e
        have := congrArg BitVec.toNat e
        simp only [BitVec.toNat_ofNat] at this
        omega
      cases h : f m <;> simp only [rowsOf, h, decodeUnitRows, if_neg hne] <;> exact ih (by omega)
  induction n with
  | zero => omega
  | succ n ih =>
    by_cases e : c.toNat = n
    · have heq : c &&& 0xFFFF = BitVec.ofNat 16 n := by
        rw [show (0xFFFF : Code) = BitVec.allOnes 16 from rfl, BitVec.and_allOnes, ← e, BitVec.ofNat_toNat,
          BitVec.setWidth_eq]
      cases h : f n with
      | none => simp only [rowsOf, h]; rw [miss n (by omega), e, h]
      | some x => simp only [rowsOf, h, decodeUnitRows, if_pos heq]; rw [e, h]
    · have hne : ¬ c &&& 0xFFFF = BitVec.ofNat 16 n := by
        rw [show (0xFFFF : Code) = BitVec.allOnes 16 from rfl, BitVec.and_allOnes]
        intro e'
        have := congrArg BitVec.toNat e'
        simp only [BitVec.toNat_ofNat] at this
        omega
      cases h : f n <;> simp only [rowsOf, h, decodeUnitRows, if_neg hne] <;> exact ih (by omega) (by omega)

end Sys2Proof
end

