-- ==== Sys2Proof/Laws/Ops.lean ====
section
/-! SUPPORT. What each shared operation can do, said once, so that proofs cite these and do not unfold the operations. -/

namespace Sys2Proof.Machine

/-- Every arm is the shared operation on the instruction's Command. -/
theorem exec_eq_runCommand (i : Instr) (s : State) : exec i s = runCommand i.command s := by cases i <;> rfl

theorem runCommand_outbound (c : Command) {s : State} (h : s.agent = .outbound) :
    runCommand c s = .next (sendCommand c s) := by simp [runCommand, h]

theorem runCommand_inbound (c : Command) {s : State} (h : s.agent = .inbound) :
    runCommand c s = .next (receiveCommand c s) := by simp [runCommand, h]

theorem frameOut_cases (s : State) (f : Frame) :
    (s.writeAnswer = .accepted ∧ s.frameOut f = s.writeFrame f) ∨
    (s.writeAnswer = .transportError ∧ s.frameOut f = s.failWrite) := by
  cases h : s.writeAnswer <;> simp [State.frameOut, h]

theorem sendCommand_cases (c : Command) (s : State) :
    (∃ f, encode s.params c = .ok f ∧ sendCommand c s = s.frameOut f) ∨
    (∃ e, encode s.params c = .err e ∧ sendCommand c s = s.reject e) := by
  cases h : encode s.params c <;> simp [sendCommand, h]

theorem debounce_suppress {w : Int} {d : DebounceState} {x : Text} {now : Int}
    (h : x = d.lastText ∧ now - d.lastTimestamp < w) : debounce w d x now = (.suppress, d) := if_pos h

theorem debounce_emit {w : Int} {d : DebounceState} {x : Text} {now : Int}
    (h : ¬ (x = d.lastText ∧ now - d.lastTimestamp < w)) : debounce w d x now = (.emit x, ⟨x, now⟩) := if_neg h

theorem window_eq (q : Params) : window q = 600 * q.ticksPerMs := by simp [window, Config.debounceWindowMs]

theorem receiveCommand_suppress {c : Command} {s : State}
    (h : format s.params.profile c = s.debounce.lastText ∧ s.now - s.debounce.lastTimestamp < 600 * s.params.ticksPerMs) :
    receiveCommand c s = s.finishInbound .suppress := by
  rw [← window_eq] at h
  simp [receiveCommand, debounce_suppress h]

theorem receiveCommand_emit {c : Command} {s : State}
    (h : ¬ (format s.params.profile c = s.debounce.lastText ∧
      s.now - s.debounce.lastTimestamp < 600 * s.params.ticksPerMs)) :
    receiveCommand c s =
      ((s.setDebounce ⟨format s.params.profile c, s.now⟩).lineOut (format s.params.profile c)).finishInbound
        (.emit (format s.params.profile c)) := by
  rw [← window_eq] at h
  simp [receiveCommand, debounce_emit h]

theorem receiveCommand_cases (c : Command) (s : State) :
    receiveCommand c s = s.finishInbound .suppress ∨
    receiveCommand c s =
      ((s.setDebounce ⟨format s.params.profile c, s.now⟩).lineOut (format s.params.profile c)).finishInbound
        (.emit (format s.params.profile c)) := by
  by_cases h : format s.params.profile c = s.debounce.lastText ∧
      s.now - s.debounce.lastTimestamp < 600 * s.params.ticksPerMs
  · exact .inl (receiveCommand_suppress h)
  · exact .inr (receiveCommand_emit h)

end Sys2Proof.Machine
end

