-- ==== Sys2Proof/Laws/PerInstr.lean ====
section
/-! SUPPORT. A family of statements made per instruction: its text syntax, from the opcode table's `text_symbol` and
`text_syntax` columns. -/

namespace Sys2Proof.Laws.TextSyntax

/-- The canonical text of an instruction, written out from the opcode table. -/
def text : Instr → Text
  | .on h u => '+' :: houseChar h :: Nat.toDigits 10 u
  | .off h u => '-' :: houseChar h :: Nat.toDigits 10 u
  | .dim h u => 's' :: houseChar h :: Nat.toDigits 10 u
  | .bright h u => 'b' :: houseChar h :: Nat.toDigits 10 u
  | .up h _ => ['u', houseChar h]
  | .down h _ => ['d', houseChar h]
  | .left h _ => ['l', houseChar h]
  | .right h _ => ['r', houseChar h]

/-- `format` renders the instruction as the table writes it, under every admissible profile, and its Command names it. -/
def Statement (i : Instr) : Prop :=
  i.command.instr = i ∧ ∀ p : Profile, p.Admissible → format p i.command = text i

theorem of_parts {i : Instr} (h : ∀ p : Profile, isPanTiltCode (p.cmd i.command.kind) = i.command.kind.isPanTilt →
    format p i.command = text i) : Statement i :=
  ⟨by simp, fun p hp => h p (hp.isPanTiltCode_cmd _)⟩

theorem on (h : House) (u : Nat) : Statement (.on h u) := of_parts fun _ hc => by
  simp_all [format, text, Instr.command, kindToSymbol, Kind.isPanTilt]
theorem off (h : House) (u : Nat) : Statement (.off h u) := of_parts fun _ hc => by
  simp_all [format, text, Instr.command, kindToSymbol, Kind.isPanTilt]
theorem dim (h : House) (u : Nat) : Statement (.dim h u) := of_parts fun _ hc => by
  simp_all [format, text, Instr.command, kindToSymbol, Kind.isPanTilt]
theorem bright (h : House) (u : Nat) : Statement (.bright h u) := of_parts fun _ hc => by
  simp_all [format, text, Instr.command, kindToSymbol, Kind.isPanTilt]
theorem up (h : House) (u : Nat) : Statement (.up h u) := of_parts fun _ hc => by
  simp_all [format, text, Instr.command, kindToSymbol, Kind.isPanTilt]
theorem down (h : House) (u : Nat) : Statement (.down h u) := of_parts fun _ hc => by
  simp_all [format, text, Instr.command, kindToSymbol, Kind.isPanTilt]
theorem left (h : House) (u : Nat) : Statement (.left h u) := of_parts fun _ hc => by
  simp_all [format, text, Instr.command, kindToSymbol, Kind.isPanTilt]
theorem right (h : House) (u : Nat) : Statement (.right h u) := of_parts fun _ hc => by
  simp_all [format, text, Instr.command, kindToSymbol, Kind.isPanTilt]

end Sys2Proof.Laws.TextSyntax
end

