-- ==== Sys2Proof/Laws/Step.lean ====
section
/-! SUPPORT. What a turn and a step can do, said once. -/

namespace Sys2Proof.Machine

/-- The outcomes of INBOUND that are a next state. -/
theorem inbound_next {r : ReadResult} {s t : State} (ha : s.agent = .inbound) (h : inbound r s = .next t) :
    (r = .fail ∧ t = s.halt) ∨
    (∃ f i, r = .data f ∧ decode s.params.profile f = .decoded i ∧ t = receiveCommand i.command s) ∨
    (∃ o, (∀ x, o ≠ .emit x) ∧ o ≠ .suppress ∧ o ≠ .halted ∧ t = s.finishInbound o) := by
  cases r with
  | timeout => exact .inr (.inr ⟨.idle, by simp, by simp, by simp, by simpa [inbound] using h.symm⟩)
  | fail => exact .inl ⟨rfl, by simpa [inbound] using h.symm⟩
  | data f =>
    simp only [inbound] at h
    split at h
    case h_1 i hd =>
      rw [exec_eq_runCommand, runCommand_inbound _ ha] at h
      exact .inr (.inl ⟨f, i, rfl, hd, by simpa using h.symm⟩)
    case h_2 => exact .inr (.inr ⟨.idle, by simp, by simp, by simp, by simpa using h.symm⟩)
    case h_3 why _ => exact .inr (.inr ⟨.ignored why, by simp, by simp, by simp, by simpa using h.symm⟩)
    case h_4 => exact .inr (.inr ⟨.unrecognizedCode, by simp, by simp, by simp, by simpa using h.symm⟩)
    case h_5 => exact absurd h (by simp)

/-- What the outbound agent's handling of a line can do. -/
theorem handleLine_cases (line : Text) {s : State} (ha : s.agent = .outbound) :
    (∃ c, parse line = .ok c ∧ handleLine line s = .next (sendCommand c s)) ∨
    (parse line = .noOp ∧ handleLine line s = .next s.skipLine) ∨
    (∃ e, parse line = .err e ∧ handleLine line s = .next (s.reject e)) := by
  cases h : parse line <;> simp [handleLine, h, exec_eq_runCommand, runCommand_outbound _ ha]

/-- What a turn of the outbound agent can do. -/
theorem outboundTurn_cases (s : State) :
    outboundTurn s = .next s ∨
    (∃ rest, s.outboundRunning = true ∧ s.lines = .endOfStream :: rest ∧
      outboundTurn s = .next (s.beginLine rest s.writeAnswer).endLines) ∨
    (∃ line a rest, s.outboundRunning = true ∧ s.lines = .line line a :: rest ∧
      outboundTurn s = handleLine line (s.beginLine rest a)) := by
  by_cases hr : s.outboundRunning = true
  · cases hl : s.lines with
    | nil => simp [outboundTurn, hr, hl]
    | cons x rest => cases x <;> simp [outboundTurn, hr, hl]
  · simp [outboundTurn, hr]

/-- What a turn of the inbound agent can do. -/
theorem inboundTurn_cases (s : State) :
    inboundTurn s = .next s ∨
    (s.inboundRunning = true ∧ s.shutdownFlag = true ∧ s.readInFlight = false ∧ inboundTurn s = .next s.exitLoop) ∨
    (∃ r rest, s.inboundRunning = true ∧ s.reads = r :: rest ∧ s.initSent = true ∧
      inboundTurn s = inbound r.result (s.beginRead rest r.now)) ∨
    inboundTurn s = .refused .readBeforeInit := by
  by_cases hr : s.inboundRunning = true
  · by_cases hx : s.shutdownFlag = true ∧ s.readInFlight = false
    · simp [inboundTurn, hr, hx.1, hx.2]
    · have hx' : (s.shutdownFlag && !s.readInFlight) = false := by
        cases h1 : s.shutdownFlag <;> cases h2 : s.readInFlight <;> simp_all
      cases hl : s.reads with
      | nil => simp [inboundTurn, hr, hx', hl]
      | cons r rest => by_cases hi : s.initSent = true <;> simp [inboundTurn, hr, hx', hl, hi]
  · simp [inboundTurn, hr]

/-- A step that answers a next state checked the parameters, and either waited or took the next turn. -/
theorem step_next {s t : State} (h : step s = .next t) :
    s.params.profile.Admissible ∧ s.params.ticksPerMs ≠ 0 ∧
    ((s.schedule = [] ∧ t = s) ∨
      ∃ turn rest, s.schedule = turn :: rest ∧ takeTurn turn (s.takeTurn rest) = .next t) := by
  simp only [step, advance] at h
  split at h
  · rename_i hp
    split at h
    · exact absurd h (by simp)
    · rename_i ht
      refine ⟨(Profile.admissible_iff _).1 hp, ht, ?_⟩
      split at h
      · exact .inl ⟨by assumption, by simpa using h.symm⟩
      · exact .inr ⟨_, _, by assumption, h⟩
  · exact absurd h (by simp)

/-- A step with usable parameters takes the next turn. -/
theorem step_turn {s : State} {turn : Turn} {rest : List Turn} (hp : s.params.profile.Admissible)
    (ht : s.params.ticksPerMs ≠ 0) (hs : s.schedule = turn :: rest) :
    step s = takeTurn turn (s.takeTurn rest) := by
  simp [step, advance, (Profile.admissible_iff _).2 hp, ht, hs]

/-- While an agent runs, an agent's turn is that agent's operation. -/
theorem takeTurn_outbound {s : State} (h : s.outboundRunning = true ∨ s.inboundRunning = true) :
    takeTurn .outbound s = outboundTurn s := by rcases h with h | h <;> simp [takeTurn, h]

theorem takeTurn_inbound {s : State} (h : s.outboundRunning = true ∨ s.inboundRunning = true) :
    takeTurn .inbound s = inboundTurn s := by rcases h with h | h <;> simp [takeTurn, h]

/-- An agent's turn faults exactly when both agents have stopped. -/
theorem takeTurn_stopped {s : State} (ho : s.outboundRunning = false) (hi : s.inboundRunning = false) :
    takeTurn .outbound s = .fault .allAgentsStopped ∧ takeTurn .inbound s = .fault .allAgentsStopped := by
  simp [takeTurn, ho, hi]

/-- Setting the shutdown flag changes the flag and the mark of a read in flight, or nothing. -/
theorem requestShutdown_cases (s : State) (b : Bool) :
    s.requestShutdown b = s ∨ s.requestShutdown b = { s with shutdownFlag := true, readInFlight := b } := by
  cases h : s.shutdownFlag <;> simp [State.requestShutdown, h]

/-- The next states of the outbound agent's handling of a line. -/
theorem handleLine_next {line : Text} {s t : State} (ha : s.agent = .outbound) (h : handleLine line s = .next t) :
    (∃ c f, parse line = .ok c ∧ encode s.params c = .ok f ∧ (t = s.writeFrame f ∨ t = s.failWrite)) ∨
    t = s.skipLine ∨ ∃ e, t = s.reject e := by
  rcases handleLine_cases line ha with ⟨c, hp, e⟩ | ⟨_, e⟩ | ⟨x, _, e⟩ <;> rw [e] at h <;> cases h
  · rcases sendCommand_cases c s with ⟨f, he, h⟩ | ⟨e, he, h⟩ <;> rw [h]
    · rcases frameOut_cases s f with ⟨_, h⟩ | ⟨_, h⟩ <;> rw [h]
      · exact .inl ⟨c, f, hp, he, .inl rfl⟩
      · exact .inl ⟨c, f, hp, he, .inr rfl⟩
    · exact .inr (.inr ⟨e, rfl⟩)
  · exact .inr (.inl rfl)
  · exact .inr (.inr ⟨x, rfl⟩)

/-- Everything a step that answers a next state can have done: waited, taken a turn that did nothing else, or one of the
operations of the agent or of the environment whose turn it was. -/
theorem step_cases {s t : State} (h : step s = .next t) :
    t = s ∨ ∃ rest, t = s.takeTurn rest ∨
      (∃ ls, s.schedule = .outbound :: rest ∧ t = ((s.takeTurn rest).beginLine ls s.writeAnswer).endLines) ∨
      (∃ ls a, s.schedule = .outbound :: rest ∧
        ((∃ line c f, parse line = .ok c ∧ encode s.params c = .ok f ∧
          (t = ((s.takeTurn rest).beginLine ls a).writeFrame f ∨ t = ((s.takeTurn rest).beginLine ls a).failWrite)) ∨
        t = ((s.takeTurn rest).beginLine ls a).skipLine ∨
        ∃ e, t = ((s.takeTurn rest).beginLine ls a).reject e)) ∨
      (s.schedule = .inbound :: rest ∧ ¬ ReadyToRead s ∧ t = (s.takeTurn rest).exitLoop) ∨
      (∃ r rs, s.schedule = .inbound :: rest ∧ s.reads = r :: rs ∧
        (r.result = .fail ∧ t = ((s.takeTurn rest).beginRead rs r.now).halt ∨
        (∃ f i, decode s.params.profile f = .decoded i ∧
          t = receiveCommand i.command ((s.takeTurn rest).beginRead rs r.now)) ∨
        ∃ o, (∀ x, o ≠ .emit x) ∧ t = ((s.takeTurn rest).beginRead rs r.now).finishInbound o)) ∨
      t = (s.takeTurn rest).sendInit ∨
      (∃ b, (b = true → s.initSent = true) ∧ s.schedule = .shutdown b :: rest ∧
        t = (s.takeTurn rest).requestShutdown b) ∨
      (s.schedule = .restart :: rest ∧ t = (s.takeTurn rest).restart) := by
  obtain ⟨-, -, ⟨-, rfl⟩ | ⟨turn, rest, hs, h⟩⟩ := step_next h
  · exact .inl rfl
  refine .inr ⟨rest, ?_⟩
  cases turn with
  | outbound =>
    by_cases hr : (s.takeTurn rest).outboundRunning = true ∨ (s.takeTurn rest).inboundRunning = true
    · rw [takeTurn_outbound hr] at h
      rcases outboundTurn_cases (s.takeTurn rest) with e | ⟨ls, -, -, e⟩ | ⟨l, a, ls, -, -, e⟩ <;> rw [e] at h
      · cases h; exact .inl rfl
      · cases h; exact .inr (.inl ⟨ls, hs, rfl⟩)
      · refine .inr (.inr (.inl ⟨ls, a, hs, ?_⟩))
        rcases handleLine_next rfl h with ⟨c, f, hp, he, h⟩ | h
        · exact .inl ⟨l, c, f, hp, he, h⟩
        · exact .inr h
    · simp only [not_or, Bool.not_eq_true] at hr
      rw [(takeTurn_stopped hr.1 hr.2).1] at h; cases h
  | inbound =>
    by_cases hr : (s.takeTurn rest).outboundRunning = true ∨ (s.takeTurn rest).inboundRunning = true
    · rw [takeTurn_inbound hr] at h
      rcases inboundTurn_cases (s.takeTurn rest) with e | ⟨-, hf, hg, e⟩ | ⟨r, rs, -, hl, -, e⟩ | e <;> rw [e] at h
      · cases h; exact .inl rfl
      · cases h
        exact .inr (.inr (.inr (.inl ⟨hs, fun hR => absurd (hR.2.1 hf) (by simpa using hg), rfl⟩)))
      · refine .inr (.inr (.inr (.inr (.inl ⟨r, rs, hs, hl, ?_⟩))))
        rcases inbound_next rfl h with ⟨hf, h⟩ | ⟨f, i, -, hd, h⟩ | ⟨o, ho, -, -, h⟩
        · exact .inl ⟨hf, h⟩
        · exact .inr (.inl ⟨f, i, hd, h⟩)
        · exact .inr (.inr ⟨o, ho, h⟩)
      · cases h
    · simp only [not_or, Bool.not_eq_true] at hr
      rw [(takeTurn_stopped hr.1 hr.2).2] at h; cases h
  | initFrames => cases h; exact .inr (.inr (.inr (.inr (.inr (.inl rfl)))))
  | shutdown b =>
    simp only [takeTurn] at h
    split at h
    · cases h
    · rename_i hb
      cases h
      exact .inr (.inr (.inr (.inr (.inr (.inr (.inl ⟨b, fun e => by simpa [e] using hb, hs, rfl⟩))))))
  | restart => cases h; exact .inr (.inr (.inr (.inr (.inr (.inr (.inr ⟨hs, rfl⟩))))))

end Sys2Proof.Machine
end

