-- ==== Sys2Proof/Tests/Slice0.lean ====
section
/-! SUPPORT. Small tests, their expected results from 95_test_vectors.md and opcode_table.json, and a witness for the
hypotheses of every statement that has some. -/

namespace Sys2Proof.Tests

open Sys2Proof.Machine

/-! ### Fixtures -/

/-- A conforming profile: `REF` with OFF_CODE and the codes of DIM and BRIGHT moved off the bits the unit codes use. -/
def conforming : Profile :=
  { Profile.ref with cmdCode := #v[0x0000, 0x0027, 0x0001, 0x0002, 0x0F01, 0x0F02, 0x0F03, 0x0F04] }

def conformingParams : Params := ⟨conforming, conforming.unitCode[0], 1000⟩

/-- `REF` with the house code of `b` made that of `a`. -/
def twoHouses : Profile := { Profile.ref with houseCode := Profile.refHouseCodes.set 1 0x60 }

/-- `REF` with CMD_CODE(UP) in the low byte. -/
def lowUp : Profile :=
  { Profile.ref with cmdCode := #v[0x0000, 0x0020, 0x0098, 0x0088, 0x0001, 0x0F02, 0x0F03, 0x0F04] }

/-- An outbound transaction under `REF`, its write to be answered with `a`. -/
def sending (a : WriteAnswer) : State := { State.boot Params.ref 0 with agent := .outbound, writeAnswer := a }

/-- An inbound transaction under `REF` at tick `now`, with DebounceState `d`. -/
def receiving (d : DebounceState) (now : Int) : State :=
  { State.boot Params.ref 0 with agent := .inbound, initSent := true, debounce := d, now := now }

/-- The machine under `REF`, initialised, with the turns, lines and reads given. -/
def running (turns : List Turn) (lines : List LineInput) (reads : List ReadInput) : State :=
  { State.boot Params.ref 0 with initSent := true, schedule := turns, lines := lines, reads := reads }

def plusA1 : Text := ['+', 'a', '1']

def minusA1 : Text := ['-', 'a', '1']

def nextState : Result → Option State
  | .next t => some t
  | _ => none

/-- The frames written by an outcome that is a next state. -/
def framesOf (r : Result) : Option (List Frame) := (nextState r).map State.framesOut

/-- What an inbound outcome leaves: DebounceState, the lines written and the outcome recorded. -/
def inboundOf (r : Result) : Option (DebounceState × List Text × Option InboundOutcome) :=
  (nextState r).map (fun t => (t.debounce, t.linesOut, t.inResult))

/-! ### Well-formedness (R26) and profiles (R22, R23) -/

theorem test_wellFormed_refuses :
    Instr.wellFormed (.on 0 0) = false ∧ Instr.wellFormed (.on 0 17) = false ∧
    Instr.wellFormed (.off 0 0) = false ∧ Instr.wellFormed (.off 15 17) = false ∧
    Instr.wellFormed (.dim 0 17) = false ∧ Instr.wellFormed (.bright 0 17) = false := by decide

theorem test_wellFormed_accepts :
    Instr.wellFormed (.on 0 1) = true ∧ Instr.wellFormed (.off 15 16) = true ∧ Instr.wellFormed (.dim 0 0) = true ∧
    Instr.wellFormed (.bright 0 16) = true ∧ Instr.wellFormed (.up 0 99) = true := by decide

theorem test_ref_admissible : Profile.ref.Admissible := by decide

theorem test_conforming : conforming.Conforming := by decide

/-- Section 2.4: `REF` breaks RT4 for DIM. -/
theorem test_ref_not_conforming : ¬ Profile.ref.RT4 .dim := by decide

theorem test_inadmissible_profiles_found : twoHouses.admissible = false ∧ lowUp.admissible = false := by decide

/-! ### Tables (V2.1.3, V2.1.4, V2.1.5) -/

theorem test_reverse_lookups :
    Profile.ref.codeToHouse 0x65 = none ∧ Profile.ref.codeToKind 0x0F05 = none ∧
    Profile.ref.codeToKind 0x00 = some .on ∧ Profile.ref.codeToKind 0x20 = some .off ∧
    Profile.ref.codeToKind 0x98 = some .dim := by decide

/-- UNIT_DECODE_GK: 0x0088 is unit 3, 0x0FDF unit 16, 0x0000 unit 1. -/
theorem test_unit_decode :
    Profile.ref.codeToUnit 0x0088 = some 2 ∧ Profile.ref.codeToUnit 0x0FDF = some 15 ∧
    Profile.ref.codeToUnit 0x0000 = some 0 := by decide

theorem test_symbols :
    symbolToKind '+' = some .on ∧ symbolToKind '-' = some .off ∧ symbolToKind 's' = some .dim ∧
    symbolToKind 'b' = some .bright ∧ symbolToKind 'u' = some .up ∧ symbolToKind 'd' = some .down ∧
    symbolToKind 'l' = some .left ∧ symbolToKind 'r' = some .right ∧ symbolToKind 'U' = none ∧
    symbolToKind 'S' = none := by decide

theorem test_letters : letterFromChar 'P' = some 15 ∧ letterFromChar 'q' = none := by decide

theorem test_isPanTiltCode :
    isPanTiltCode 0x0100 = true ∧ isPanTiltCode 0x00FF = false ∧ isPanTiltCode 0x0000 = false ∧
    isPanTiltCode 0xFFFF = true := by decide

/-! ### Words of the opcode table, one for each constructor (byte 0 in the top bits) -/

theorem test_word_on : decodeTableWord 40 0x20609F00FF = some (.on 0 1) := by decide

theorem test_word_off : decodeTableWord 40 0x2034CB7887 = some (.off 15 16) := by decide

/-- V2.3.24: under `REF`, DIM is decoded from a pan/tilt frame only. -/
theorem test_word_dim : decodeTableWord 32 0x14009860 = some (.dim 0 1) := by decide

/-- R98: as V2.3.24, for BRIGHT, whose `REF` code is 0x88. -/
theorem test_word_bright : decodeTableWord 32 0x14008860 = some (.bright 0 1) := by decide

theorem test_word_up : decodeTableWord 32 0x147F0170 = some (.up 1 1) := by decide

theorem test_word_down : decodeTableWord 32 0x146F0260 = some (.down 0 1) := by decide

theorem test_word_left : decodeTableWord 32 0x143F0330 = some (.left 15 1) := by decide

theorem test_word_right : decodeTableWord 32 0x140F0400 = some (.right 12 1) := by decide

/-- V2.3.16: the DIM frame of d5 reads as ON under `REF` (V2.4.2). -/
theorem test_word_dim_merged : decodeTableWord 40 0x2050AFD827 = some (.on 3 8) := by decide

/-- A word placed where the machine reads next is what the next step runs. -/
theorem test_withFetchWord :
    inboundOf (step (State.reset.withFetchWord 32 0x147F0170)) =
      some (⟨['u', 'b'], 0⟩, [['u', 'b', '\n']], some (.emit ['u', 'b'])) := by decide

/-! ### Encoder (V2.2) -/

theorem test_encode_normal :
    encode Params.ref ⟨.off, 15, 16⟩ = .ok [0x20, 0x34, 0xCB, 0x78, 0x87] ∧
    encode Params.ref ⟨.on, 12, 9⟩ = .ok [0x20, 0x04, 0xFB, 0x00, 0xFF] ∧
    encode Params.ref ⟨.bright, 2, 3⟩ = .ok [0x20, 0x40, 0xBF, 0x88, 0x77] ∧
    encode Params.ref ⟨.dim, 4, 0⟩ = .ok [0x20, 0x80, 0x7F, 0x98, 0x67] := by decide

theorem test_encode_panTilt :
    encode Params.ref ⟨.up, 1, 5⟩ = .ok [0x14, 0x7F, 0x01, 0x70] ∧
    encode Params.ref ⟨.down, 0, 0⟩ = .ok [0x14, 0x6F, 0x02, 0x60] ∧
    encode Params.ref ⟨.left, 15, 7⟩ = .ok [0x14, 0x3F, 0x03, 0x30] ∧
    encode Params.ref ⟨.right, 0, 99⟩ = .ok [0x14, 0x6F, 0x04, 0x60] := by decide

theorem test_encode_invalidUnit :
    encode Params.ref ⟨.on, 0, 17⟩ = .err .invalidUnit ∧ encode Params.ref ⟨.on, 0, 0⟩ = .err .invalidUnit ∧
    encode Params.ref ⟨.off, 0, 0⟩ = .err .invalidUnit ∧ encode Params.ref ⟨.dim, 0, 17⟩ = .err .invalidUnit := by
  decide

theorem test_format :
    format Profile.ref ⟨.off, 15, 16⟩ = ['-', 'p', '1', '6'] ∧ format Profile.ref ⟨.up, 1, 5⟩ = ['u', 'b'] ∧
    format Profile.ref ⟨.dim, 0, 0⟩ = ['s', 'a', '0'] ∧ format Profile.ref ⟨.bright, 2, 3⟩ = ['b', 'c', '3'] := by decide

/-! ### Decoder (V2.3) -/

theorem test_decode_dropped :
    decode Profile.ref [] = .idle ∧ decode Profile.ref [0x20, 0x34, 0xCB, 0x78] = .ignored .shortFrame ∧
    decode Profile.ref [0x14, 0x7F, 0x01] = .ignored .shortFrame ∧
    decode Profile.ref [0x21, 0x01, 0x02, 0x03, 0x04] = .ignored .unknownPrefix ∧
    decode Profile.ref [0x14, 0x0F, 0x01, 0x65] = .unrecognizedCode ∧
    decode Profile.ref [0x14, 0x0F, 0x05, 0x60] = .unrecognizedCode := by decide

theorem test_decode_fields :
    decode Profile.ref [0x20, 0x65, 0x9A, 0x00, 0xFF] = .decoded (.on 0 9) ∧
    decode Profile.ref [0x20, 0x6F, 0x00, 0xFF, 0x00] = .decoded (.off 0 16) ∧
    decode Profile.ref [0x20, 0xFF, 0x00, 0xDF, 0x00] = .decoded (.on 9 16) ∧
    decode Profile.ref [0x14, 0x7F, 0x01, 0x70, 0x99] = .decoded (.up 1 1) ∧
    decode Profile.ref [0x14, 0x00, 0x20, 0x60] = .decoded (.off 0 1) := by decide

/-! ### Line parser (V2.5) -/

theorem test_parse_accepts :
    parse plusA1 = .ok ⟨.on, 0, 1⟩ ∧ parse ['+', 'a', '1', '2', '3'] = .ok ⟨.on, 0, 12⟩ ∧
    parse ['b', 'a'] = .ok ⟨.bright, 0, 0⟩ ∧ parse ['u', 'B'] = .ok ⟨.up, 1, 0⟩ ∧
    parse ['r', 'a', '9', '9', '9'] = .ok ⟨.right, 0, 99⟩ ∧ parse [] = .noOp := by decide

theorem test_parse_rejects :
    parse ['*', 'z'] = .err .invalidCommandSymbol ∧ parse ['u', ' ', 'b'] = .err .invalidHouseLetter ∧
    parse ['u', 'a', '1', '2', 'x'] = .err .invalidDigit ∧ parse ['-', 'b'] = .err .missingUnit ∧
    parse ['+', 'a', '0', '0'] = .err .invalidUnit ∧ parse ['b', 'a', '1', '7'] = .err .invalidUnit ∧
    parse ['+'] = .err .tooShort := by decide

/-! ### Debounce (V2.6) -/

/-- V2.6.1: suppressed 599 ms after the emission, emitted at 600 ms. -/
theorem test_debounce_window :
    debounce (window Params.ref) ⟨plusA1, 0⟩ plusA1 599000 = (.suppress, ⟨plusA1, 0⟩) ∧
    debounce (window Params.ref) ⟨plusA1, 0⟩ plusA1 600000 = (.emit plusA1, ⟨plusA1, 600000⟩) := by decide

/-- V2.6.4: a clock that goes backwards. -/
theorem test_debounce_clock_back :
    debounce (window Params.ref) ⟨plusA1, 1000000⟩ plusA1 (-5000000) = (.suppress, ⟨plusA1, 1000000⟩) := by decide

/-! ### One step of each agent (P1, P2, V2.7) -/

theorem test_step_line :
    framesOf (step (running [.outbound] [.line ['u', 'b', '5'] .accepted] [])) =
      some [[0x14, 0x7F, 0x01, 0x70]] := by decide

/-- P1, line 7: reported, and nothing written. -/
theorem test_step_bad_line :
    (nextState (step (running [.outbound] [.line ['+', 'a', '1', '7'] .accepted] []))).map
      (fun t => (t.reports, t.framesOut, t.outboundRunning)) = some ([.invalidUnit], [], true) := by decide

/-- P1': a failed write stops the outbound agent. -/
theorem test_step_failed_write :
    (nextState (step (running [.outbound] [.line plusA1 .transportError] []))).map
      (fun t => (t.framesOut, t.outboundRunning, t.inboundRunning)) = some ([], false, true) := by decide

/-- V2.7.1 and V2.7.5: the first event is emitted; its repeat, with other complement bytes, is suppressed. -/
theorem test_inbound_events :
    inboundOf (inbound (.data [0x20, 0x60, 0x9F, 0x00, 0xFF]) (receiving ⟨[], 7⟩ 0)) =
      some (⟨plusA1, 0⟩, [plusA1 ++ ['\n']], some (.emit plusA1)) ∧
    inboundOf (inbound (.data [0x20, 0x60, 0x00, 0x00, 0x00]) (receiving ⟨plusA1, 0⟩ 50000)) =
      some (⟨plusA1, 0⟩, [], some .suppress) := by decide

/-- V2.7.6: an OFF from a pan/tilt frame repeats the OFF of a normal one. -/
theorem test_inbound_other_shape :
    inboundOf (inbound (.data [0x14, 0x00, 0x20, 0x60]) (receiving ⟨minusA1, 0⟩ 50000)) =
      some (⟨minusA1, 0⟩, [], some .suppress) := by decide

/-- V2.7.7: a failed read halts the inbound agent. -/
theorem test_step_failed_read :
    (nextState (step (running [.inbound] [] [⟨.fail, 50000⟩]))).map
      (fun t => (t.inboundRunning, t.outboundRunning, t.inResult)) = some (false, true, some .halted) := by decide

/-- R150: the initialisation turn makes reads possible. -/
theorem test_step_initFrames :
    (nextState (step { running [.initFrames] [] [] with initSent := false })).map State.initSent = some true := by decide

/-- R156: the shutdown turn sets the flag and keeps the mark of a read in flight. -/
theorem test_step_shutdown :
    (nextState (step (running [.shutdown true] [] []))).map (fun t => (t.shutdownFlag, t.readInFlight)) =
      some (true, true) ∧
    (nextState (step (running [.shutdown false] [] []))).map (fun t => (t.shutdownFlag, t.readInFlight)) =
      some (true, false) := by decide

/-- R151: no read can be in flight before the initialisation frames. -/
theorem test_step_read_begun_before_init :
    nextState (step { running [.shutdown true, .initFrames, .inbound] [] [] with initSent := false }) = none := by decide

/-! ### Status codes (R32) -/

theorem test_status_codes :
    (statusOfParse .noOp).code = 1 ∧ (statusOfError .tooShort).code = 2 ∧ (statusOfError .invalidUnit).code = 8 ∧
    (statusOfDecode .unrecognizedCode).map Status.code = some 9 ∧ (statusOfInbound .suppress).code = 13 ∧
    (statusOfDebounce .suppress).code = 13 ∧ (statusOfOutbound .writeFailed).map Status.code = none ∧
    (statusOfInbound .halted).code = 14 := by decide

/-! ### Witnesses: the hypotheses of each statement, met together; boundary values for each clause

A theorem `test_witness_<Statement>` shows a concrete input. -/

theorem usable_running (turns : List Turn) (lines : List LineInput) (reads : List ReadInput) :
    Usable (running turns lines reads) := ⟨test_ref_admissible, Nat.succ_ne_zero 999⟩

theorem ready_running (turns : List Turn) (lines : List LineInput) (reads : List ReadInput) :
    ReadyToRead (running turns lines reads) := ⟨rfl, fun h => absurd h Bool.false_ne_true, rfl⟩

theorem test_witness_ReverseLookupsInvertForwardMaps :
    Profile.ref.Admissible ∧ Profile.ref.codeToHouse 0x30 = some 15 ∧ Profile.ref.codeToHouse 0x31 = none ∧
    Profile.ref.codeToKind 0x0F04 = some .right ∧ Profile.ref.codeToKind 0x0F00 = none := by decide

theorem test_witness_PanTiltCodesAreThoseAboveTheLowByte :
    conforming.Admissible ∧ isPanTiltCode (conforming.cmd .right) = true ∧
    isPanTiltCode (conforming.cmd .bright) = false := by decide

theorem test_witness_HouseLettersAreReadInEitherCase :
    ([] : Text).length ≤ 3 ∧ ['1', '2', '3'].length ≤ 3 ∧ letterFromChar 'q' = none ∧ letterFromChar '`' = none := by
  decide

theorem test_witness_ExampleFixesTheCodeOfHouseA :
    conformingParams.profile.Conforming ∧ encode conformingParams ⟨.on, 0, 1⟩ = .ok [0x20, 0x60, 0x9F, 0x00, 0xFF] ∧
    ([0x20, 0x60, 0x9F, 0x00, 0xFF] : Frame)[1]? = some 0x60 ∧ (0x60 : Byte).extractLsb' 4 4 = 6 := by decide

theorem test_witness_NormalByteOneIsUnitHighOrHouse :
    isPanTiltCode (Profile.ref.cmd .on) = false ∧ Profile.ref.RT1 0 ∧ Profile.ref.RT1 15 ∧ Profile.ref.RT2 0 ∧
    Profile.ref.RT2 15 := by decide

theorem test_witness_NormalByteThreeIsUnitLowOrCommand :
    isPanTiltCode (conforming.cmd .bright) = false ∧ conforming.RT3 0 ∧ conforming.RT3 15 ∧ conforming.RT4 .on ∧
    conforming.RT4 .bright := by decide

theorem test_witness_NormalFramesCarryExactComplements :
    isPanTiltCode (Params.ref.profile.cmd .off) = false ∧
    encode Params.ref ⟨.off, 15, 16⟩ = .ok [0x20, 0x34, 0xCB, 0x78, 0x87] := by decide

theorem test_witness_PanTiltBytesSplitTheCommandCode :
    isPanTiltCode (Profile.ref.cmd .right) = true ∧ Profile.ref.RT6 .right ∧ Profile.ref.RT7 15 .right := by decide

theorem test_witness_FrameShapeFollowsTheFamily :
    Params.ref.profile.Admissible ∧ Kind.isPanTilt .up = true ∧ Kind.isPanTilt .bright = false ∧
    Command.wellFormed ⟨.bright, 0, 0⟩ = true ∧ Command.wellFormed ⟨.bright, 0, 16⟩ = true ∧
    Command.wellFormed ⟨.bright, 0, 17⟩ = false ∧ Command.wellFormed ⟨.on, 0, 0⟩ = false := by decide

theorem test_witness_DecodeOfEncodeIsTheCommand :
    conformingParams.profile.Conforming ∧ Instr.wellFormed (.dim 15 16) = true ∧
    Kind.isPanTilt .dim = false ∧ 1 ≤ (Instr.dim 15 16).command.unit ∧
    Instr.wellFormed (.left 0 99) = true ∧ Kind.isPanTilt .left = true := by decide

/-- Each clause: a normal and a pan/tilt Command under `REF`, and under a conforming profile the default UNIT0_CODE, that of
unit 16, one that is no unit's code but fits the fields, and one that does not. -/
theorem test_witness_CasesOutsideTheRoundTripLawDecodeByTheirCodes :
    (Params.ref.profile.Admissible ∧ Kind.isPanTilt .off = false ∧ Profile.ref.RT1 15 ∧ Profile.ref.RT2 15 ∧
      Profile.ref.RT3 15 ∧ Profile.ref.RT4 .off ∧ Profile.ref.RT5 15) ∧
    (Kind.isPanTilt .down = true ∧ Profile.ref.RT5 0 ∧ Profile.ref.RT6 .down ∧ Profile.ref.RT7 0 .down) ∧
    (conforming.Conforming ∧ conformingParams.unit0Code = conforming.unit 0 ∧
      (0x0458 : Code) >>> 8 ≤ 0x0F ∧ (0x0458 : Code) &&& 0xFF &&& conforming.offCode = 0 ∧
      conforming.codeToUnit 0x0458 = some 15 ∧
      (0x0FD8 : Code) >>> 8 ≤ 0x0F ∧ (0x0FD8 : Code) &&& 0xFF &&& conforming.offCode = 0 ∧
      conforming.codeToUnit 0x0FD8 = some 15 ∧ ¬ (0x1000 : Code) >>> 8 ≤ 0x0F) := by decide

/-- A profile whose UNIT_DECODE fails on UNIT0_CODE, for the clause's second case. -/
theorem test_witness_unit0Code_fails :
    ({ conforming with unitDecode := conforming.unitDecode.map (fun r => { r with mask := 0xFFFF }) } : Profile).Conforming ∧
    ({ conforming with unitDecode := conforming.unitDecode.map (fun r => { r with mask := 0xFFFF }) } : Profile).codeToUnit
      0x0FD8 = none := by decide

/-- A decoded frame, and one whose command code is in no table. -/
theorem test_witness_NormalFramesDecodeByTheirFields :
    Profile.ref.Admissible ∧ decode Profile.ref [0x20, 0x34, 0xCB, 0x78, 0x87] = .decoded (.off 15 16) ∧
    conforming.Admissible ∧ decode conforming [0x20, 0x60, 0x9F, 0x04, 0xFB] = .unrecognizedCode := by decide

theorem test_witness_PanTiltFramesDecodeByTheirFields :
    Profile.ref.Admissible ∧ decode Profile.ref [0x14, 0x0F, 0x04, 0x00] = .decoded (.right 12 1) ∧
    decode Profile.ref [0x14, 0x0F, 0x05, 0x60] = .unrecognizedCode := by decide

theorem test_witness_DecodedCommandsAreValid :
    Profile.ref.Admissible ∧ decode Profile.ref [0x20, 0x6F, 0x00, 0xFF, 0x00] = .decoded (.off 0 16) ∧
    ([0x20, 0x6F, 0x00, 0xFF, 0x00] : Frame)[0]? = some 0x20 := by decide

/-- Lines of 5 and 6 characters. -/
theorem test_witness_LinesOverFiveCharactersAreTooLong :
    5 < (plusA1 ++ plusA1).length ∧ ['+', 'a', '1', '2', '3'].length = 5 := by decide

theorem test_witness_UnknownSymbolsAreRejected :
    1 ≤ ['a'].length ∧ ['a'].length ≤ 4 ∧ parse ['*', 'a'] = .err .invalidCommandSymbol ∧
    1 ≤ ['a', '1', '2', 'x'].length ∧ ['a', '1', '2', 'x'].length ≤ 4 ∧
    parse ['+', 'a', '1', '2', 'x'] = .err .invalidDigit := by decide

/-- No digits and three, and the characters next to the letters' ranges. -/
theorem test_witness_UnknownHouseLettersAreRejected :
    ([] : Text).length ≤ 3 ∧ ['1', '2', '3'].length ≤ 3 ∧ parse ['u', 'q'] = .err .invalidHouseLetter ∧
    parse ['u', '@'] = .err .invalidHouseLetter ∧ parse ['u', 'P', '1', '2', '3'] = .ok ⟨.up, 15, 12⟩ := by decide

/-- The characters next to the digits' range. -/
theorem test_witness_ShortLinesAndNonDigitsAreRejected :
    ['1', '2', ':'].length ≤ 3 ∧ ['/'].length ≤ 3 ∧
    parse ['u', 'a', '1', '2', ':'] = .err .invalidDigit ∧ parse ['u', 'a', '/'] = .err .invalidDigit := by decide

theorem test_witness_MissingUnitIsForOnAndOffOnly :
    Kind.bright ≠ .on ∧ Kind.bright ≠ .off ∧ Kind.up ≠ .on ∧ Kind.up ≠ .off := by decide

theorem test_witness_ParseOfFormatIsTheCommand :
    Profile.ref.Admissible ∧ Command.wellFormed ⟨.dim, 0, 0⟩ = true ∧ Command.wellFormed ⟨.on, 15, 16⟩ = true ∧
    Command.wellFormed ⟨.up, 15, 100⟩ = true := by decide

theorem test_witness_CanonicalTextsTellCommandsApart :
    Profile.ref.Admissible ∧ (⟨.on, 0, 1⟩ : Command).unit ≤ 16 ∧ (⟨.on, 0, 16⟩ : Command).unit ≤ 16 ∧
    format Profile.ref ⟨.on, 0, 1⟩ ≠ format Profile.ref ⟨.on, 0, 16⟩ := by decide

theorem test_witness_ParsedCommandsAlwaysEncode :
    Params.ref.profile.Admissible ∧ parse ['b', 'a'] = .ok ⟨.bright, 0, 0⟩ := by decide

theorem test_witness_OnAndOffSendNormalFrames :
    (sending .accepted).params.profile.Admissible ∧ (sending .accepted).agent = .outbound ∧
    (sending .accepted).writeAnswer = .accepted ∧
    framesOf (exec (.on 0 1) (sending .accepted)) = some [[0x20, 0x60, 0x9F, 0x00, 0xFF]] ∧
    framesOf (exec (.off 15 16) (sending .accepted)) = some [[0x20, 0x34, 0xCB, 0x78, 0x87]] := by decide

theorem test_witness_DimAndBrightSendNormalFrames :
    (sending .accepted).params.profile.Admissible ∧ (sending .accepted).agent = .outbound ∧
    (sending .accepted).writeAnswer = .accepted ∧
    framesOf (exec (.dim 3 5) (sending .accepted)) = some [[0x20, 0x50, 0xAF, 0xD8, 0x27]] ∧
    framesOf (exec (.bright 0 0) (sending .accepted)) = some [[0x20, 0x60, 0x9F, 0x88, 0x77]] := by decide

theorem test_witness_PanTiltCommandsSendPanTiltFrames :
    (sending .accepted).params.profile.Admissible ∧ (sending .accepted).agent = .outbound ∧
    (sending .accepted).writeAnswer = .accepted ∧
    framesOf (exec (.left 15 7) (sending .accepted)) = some [[0x14, 0x3F, 0x03, 0x30]] ∧
    framesOf (exec (.right 12 0) (sending .accepted)) = some [[0x14, 0x0F, 0x04, 0x00]] := by decide

/-- One millisecond before the window's end, and at it. -/
theorem test_witness_ReceivedCommandsAreEmittedOrSuppressed :
    (receiving ⟨plusA1, 0⟩ 599999).params.profile.Admissible ∧ (receiving ⟨plusA1, 0⟩ 599999).agent = .inbound ∧
    (plusA1 = (receiving ⟨plusA1, 0⟩ 599999).debounce.lastText ∧ (599999 : Int) - 0 < 600 * (1000 : Nat)) ∧
    (receiving ⟨plusA1, 0⟩ 600000).agent = .inbound ∧ ¬ (600000 : Int) - 0 < 600 * (1000 : Nat) := by decide

theorem test_witness_UnitsOutOfRangeAreReported :
    (sending .accepted).params.profile.Admissible ∧ (sending .accepted).agent = .outbound ∧
    (0 = 0 ∨ 16 < 0) ∧ (17 = 0 ∨ 16 < 17) := by decide

theorem test_witness_FailedWriteStopsTheOutboundAgent :
    ((sending .transportError).params.profile.Admissible ∧ (sending .transportError).agent = .outbound ∧
      (sending .transportError).writeAnswer = .transportError ∧ Instr.wellFormed (.on 0 1) = true) ∧
    ∃ s : State, Usable s ∧ s.outboundRunning = false ∧ s.inboundRunning = true ∧ s.schedule = [.outbound] :=
  ⟨by decide, { running [.outbound] [] [] with outboundRunning := false }, usable_running [] [] [], rfl, rfl, rfl⟩

/-- A command sent, one turned away, and one whose write fails. -/
theorem test_witness_OutboundCommandsLeaveTheRestUnchanged :
    (sending .accepted).agent = .outbound ∧ (nextState (exec (.on 0 1) (sending .accepted))).isSome = true ∧
    (nextState (exec (.on 0 17) (sending .accepted))).isSome = true ∧
    (nextState (exec (.up 0 0) (sending .transportError))).isSome = true := by decide

/-- A command emitted and one suppressed. -/
theorem test_witness_InboundCommandsLeaveTheRestUnchanged :
    (receiving ⟨[], 0⟩ 5).agent = .inbound ∧
    inboundOf (exec (.on 0 1) (receiving ⟨[], 0⟩ 5)) =
      some (⟨plusA1, 5⟩, [plusA1 ++ ['\n']], some (.emit plusA1)) ∧
    inboundOf (exec (.on 0 1) (receiving ⟨plusA1, 0⟩ 5)) = some (⟨plusA1, 0⟩, [], some .suppress) := by decide

theorem test_witness_SuppressionIsExactlyARepeatInsideTheWindow :
    (debounce 600 ⟨plusA1, 0⟩ plusA1 599).1 = .suppress ∧ (debounce 600 ⟨plusA1, 0⟩ plusA1 600).1 ≠ .suppress ∧
    (receiving ⟨plusA1, 0⟩ 5).agent = .inbound ∧
    inboundOf (exec (.on 0 1) (receiving ⟨plusA1, 0⟩ 5)) = some (⟨plusA1, 0⟩, [], some .suppress) := by decide

theorem test_witness_EmissionWritesBothFields :
    (debounce 600 ⟨plusA1, 0⟩ plusA1 600).1 = .emit plusA1 ∧ minusA1 ≠ plusA1 := by decide

/-- The clock stands still, and goes back. -/
theorem test_witness_RepeatsAreSuppressedWhenTheClockGoesBack :
    (receiving ⟨plusA1, 0⟩ 0).params.ticksPerMs ≠ 0 ∧ (receiving ⟨plusA1, 0⟩ 0).agent = .inbound ∧
    format (receiving ⟨plusA1, 0⟩ 0).params.profile (Instr.on 0 1).command = plusA1 ∧
    (receiving ⟨plusA1, 0⟩ 0).now ≤ 0 ∧ (receiving ⟨plusA1, 0⟩ (-5000000)).now ≤ 0 := by decide

theorem test_witness_FirstEventIsAlwaysEmitted :
    (receiving ⟨[], 5⟩ 5).agent = .inbound ∧ (receiving ⟨[], 5⟩ 5).debounce.lastText = [] := by decide

/-- The repeat just inside the window and the event at its end; a first event that repeats, and one that does not. -/
theorem test_witness_HeldKeyOncePerWindowAlternationsAlways :
    (∀ t ∈ [100, 599], (t : Int) - 0 < 600) ∧ (600 : Int) ≤ 600 - 0 ∧ plusA1 ≠ minusA1 ∧
    ¬ (plusA1 = plusA1 ∧ (600 : Int) - 0 < 600) ∧ ¬ (plusA1 = [] ∧ (0 : Int) - 0 < 600) := by decide

theorem test_witness_FramesOfOneCommandAreRepeats :
    (receiving ⟨[], 0⟩ 0).agent = .inbound ∧
    decode (receiving ⟨[], 0⟩ 0).params.profile [0x20, 0x60, 0x9F, 0x20, 0xDF] = .decoded (.off 0 1) ∧
    decode (receiving ⟨[], 0⟩ 0).params.profile [0x14, 0x00, 0x20, 0x60] = .decoded (.off 0 1) ∧
    inboundOf (inbound (.data [0x20, 0x60, 0x9F, 0x20, 0xDF]) (receiving ⟨[], 0⟩ 0)) =
      some (⟨minusA1, 0⟩, [minusA1 ++ ['\n']], some (.emit minusA1)) ∧
    (599999 : Int) - 0 < 600 * (receiving ⟨[], 0⟩ 0).params.ticksPerMs := by decide

/-- Both clauses' outcomes, on reads of the same machine. -/
theorem test_witness_OneLineIsWrittenPerEmission :
    (receiving ⟨minusA1, 0⟩ 5).agent = .inbound ∧
    inboundOf (inbound (.data [0x20, 0x60, 0x9F, 0x00, 0xFF]) (receiving ⟨minusA1, 0⟩ 5)) =
      some (⟨plusA1, 5⟩, [plusA1 ++ ['\n']], some (.emit plusA1)) ∧
    inboundOf (inbound (.data [0x20, 0x60, 0x9F, 0x20, 0xDF]) (receiving ⟨minusA1, 0⟩ 5)) =
      some (⟨minusA1, 0⟩, [], some .suppress) := by decide

theorem test_witness_DroppedAndSuppressedEventsChangeNothingElse :
    (receiving ⟨plusA1, 0⟩ 5).agent = .inbound ∧
    inboundOf (inbound (.data [0x21, 0x00]) (receiving ⟨plusA1, 0⟩ 5)) =
      some (⟨plusA1, 0⟩, [], some (.ignored .unknownPrefix)) := by decide

/-- DebounceState changes by an emission, and by a restart; the first clause's case. -/
theorem test_witness_OnlyTheInboundAgentTouchesDebounceState :
    inboundOf (step (running [.inbound] [] [⟨.data [0x20, 0x60, 0x9F, 0x00, 0xFF], 9⟩])) =
      some (⟨plusA1, 9⟩, [plusA1 ++ ['\n']], some (.emit plusA1)) ∧
    (running [.inbound] [] []).debounce ≠ ⟨plusA1, 9⟩ ∧
    ((nextState (step { running [.restart] [] [] with debounce := ⟨plusA1, 9⟩ })).map
      (fun t => t.debounce.lastText)) = some [] ∧
    Turn.outbound ≠ .inbound ∧ Turn.outbound ≠ .restart := by decide

theorem test_witness_StepRunsTheDecodedRead :
    let r : ReadInput := ⟨.data [0x14, 0x7F, 0x01, 0x70], 5⟩
    Usable (running [.inbound] [] [r]) ∧ ReadyToRead (running [.inbound] [] [r]) ∧
    (running [.inbound] [] [r]).schedule = [.inbound] ∧ (running [.inbound] [] [r]).reads = [r] ∧
    decode (running [.inbound] [] [r]).params.profile [0x14, 0x7F, 0x01, 0x70] = .decoded (.up 1 1) :=
  ⟨usable_running .., ready_running .., rfl, rfl, by decide⟩

theorem test_witness_StepRunsTheParsedLine :
    Usable (running [.outbound] [.line plusA1 .accepted] []) ∧
    (running [.outbound] [.line plusA1 .accepted] []).outboundRunning = true ∧
    (running [.outbound] [.line plusA1 .accepted] []).schedule = [.outbound] ∧
    (running [.outbound] [.line plusA1 .accepted] []).lines = [.line plusA1 .accepted] ∧
    parse plusA1 = .ok ⟨.on, 0, 1⟩ := ⟨usable_running .., rfl, rfl, rfl, rfl⟩

/-- A line for each clause: a command, the empty line, an error, the end of the stream. -/
theorem test_witness_OutboundAgentHandlesEachLine :
    (Usable (running [.outbound] [.line plusA1 .accepted] []) ∧
      (running [.outbound] [.line plusA1 .accepted] []).outboundRunning = true ∧
      (running [.outbound] [.line plusA1 .accepted] []).schedule = [.outbound]) ∧
    parse plusA1 = .ok ⟨.on, 0, 1⟩ ∧
    encode (running [.outbound] [.line plusA1 .accepted] []).params ⟨.on, 0, 1⟩ =
      .ok [0x20, 0x60, 0x9F, 0x00, 0xFF] ∧
    (running [.outbound] [.line [] .accepted] []).lines = [.line [] .accepted] ∧
    parse ['+', 'z', '1'] = .err .invalidHouseLetter ∧
    (running [.outbound] [.endOfStream] []).lines = [.endOfStream] :=
  ⟨⟨usable_running .., rfl, rfl⟩, by decide, by decide, rfl, by decide, rfl⟩

/-- The first bytes next to the two prefixes, with no and with four bytes after them. -/
theorem test_witness_UnknownPrefixesAreSilentlyIgnored :
    (0x21 : Byte) ≠ 0x20 ∧ (0x21 : Byte) ≠ 0x14 ∧ ([] : Frame).length ≤ 4 ∧ (0x13 : Byte) ≠ 0x20 ∧
    (0x13 : Byte) ≠ 0x14 ∧ ([0, 0, 0, 0] : Frame).length ≤ 4 := by decide

theorem test_witness_ShortFramesAndUnrecognizedCodesAreDropped :
    ([0x34, 0xCB, 0x78] : Frame).length < 4 ∧ ([0x7F, 0x01] : Frame).length < 3 ∧
    decode (running [] [] []).params.profile [0x14, 0x0F, 0x05, 0x60] = .unrecognizedCode := by decide

theorem test_witness_FailedReadHaltsTheInboundAgent :
    (Usable (running [.inbound] [] [⟨.fail, 5⟩]) ∧ ReadyToRead (running [.inbound] [] [⟨.fail, 5⟩]) ∧
      (running [.inbound] [] [⟨.fail, 5⟩]).schedule = [.inbound]) ∧
    ∃ s : State, Usable s ∧ s.inboundRunning = false ∧ s.outboundRunning = true ∧ s.schedule = [.inbound] :=
  ⟨⟨usable_running .., ready_running .., rfl⟩,
    { running [.inbound] [] [] with inboundRunning := false }, usable_running [.inbound] [] [], rfl, rfl, rfl⟩

/-- The shutdown turn with either mark and with the flag set already; the flag set with and without the read in flight; an
inbound outcome. -/
theorem test_witness_ShutdownLetsTheReadInFlightFinish :
    (Usable (running [.shutdown true] [] []) ∧ (running [.shutdown true] [] []).initSent = true ∧
      (running [.shutdown true] [] []).shutdownFlag = false ∧
      (running [.shutdown false] [] []).shutdownFlag = false ∧
      ({ running [.shutdown false] [] [] with shutdownFlag := true }).shutdownFlag = true) ∧
    (∃ s : State, Usable s ∧ s.inboundRunning = true ∧ s.initSent = true ∧ s.shutdownFlag = true ∧
      s.readInFlight = true ∧ s.schedule = [.inbound] ∧ s.reads = [⟨.timeout, 0⟩]) ∧
    (∃ s : State, Usable s ∧ s.inboundRunning = true ∧ s.shutdownFlag = true ∧ s.readInFlight = false ∧
      s.schedule = [.inbound]) ∧
    (receiving ⟨[], 0⟩ 0).agent = .inbound ∧
    (nextState (inbound .timeout (receiving ⟨[], 0⟩ 0))).isSome = true :=
  ⟨⟨usable_running .., rfl, rfl, rfl, rfl⟩,
    ⟨{ running [.inbound] [] [⟨.timeout, 0⟩] with shutdownFlag := true, readInFlight := true },
      usable_running [] [] [], rfl, rfl, rfl, rfl, rfl, rfl⟩,
    ⟨{ running [.inbound] [] [] with shutdownFlag := true }, usable_running [] [] [], rfl, rfl, rfl, rfl⟩, rfl, rfl⟩

/-- A state for each refusal, and one for the initialisation turn. -/
theorem test_witness_RefusalsOfTheMachine :
    (¬ twoHouses.Admissible) ∧ (⟨Profile.ref, 0, 0⟩ : Params).profile.Admissible ∧
    (⟨Profile.ref, 0, 0⟩ : Params).ticksPerMs = 0 ∧
    (Usable (running [.inbound] [] [⟨.data [0, 0, 0, 0, 0, 0], 0⟩]) ∧
      ReadyToRead (running [.inbound] [] [⟨.data [0, 0, 0, 0, 0, 0], 0⟩]) ∧
      5 < ([0, 0, 0, 0, 0, 0] : Frame).length) ∧
    (∀ flag : Bool, ∃ s : State, Usable s ∧ s.inboundRunning = true ∧ s.shutdownFlag = flag ∧
      (s.shutdownFlag = true → s.readInFlight = true) ∧ s.initSent = false ∧
      s.schedule = [.inbound] ∧ s.reads = [⟨.timeout, 0⟩]) ∧
    (∃ s : State, Usable s ∧ s.initSent = false ∧ s.schedule = [.shutdown true]) ∧
    Usable (running [.initFrames] [] []) ∧ (running [.initFrames] [] []).schedule = [.initFrames] :=
  ⟨by decide, test_ref_admissible, rfl, ⟨usable_running .., ready_running .., by decide⟩,
    fun flag => ⟨{ running [.inbound] [] [⟨.timeout, 0⟩] with
        initSent := false, shutdownFlag := flag, readInFlight := flag },
      usable_running [] [] [], rfl, rfl, id, rfl, rfl, rfl⟩,
    ⟨{ running [.shutdown true] [] [] with initSent := false }, usable_running [] [] [], rfl, rfl⟩,
    usable_running .., rfl⟩

theorem test_witness_OnlyTwoStoppedAgentsFault :
    ∃ s : State, Usable s ∧ s.inboundRunning = false ∧ s.outboundRunning = false ∧ s.schedule = [.outbound] :=
  ⟨{ running [.outbound] [] [] with inboundRunning := false, outboundRunning := false },
    usable_running [] [] [], rfl, rfl, rfl⟩

/-- The frame of the reset state's clause exists, for whatever the tables are. -/
theorem test_witness_ResetState : ∃ f : Frame, encode State.reset.params ⟨.on, 0, 1⟩ = .ok f := by
  have h : isPanTiltCode (State.reset.params.profile.cmd .on) = false :=
    Config.profile.admissible.isPanTiltCode_cmd .on
  exact ⟨encodeNormal (State.reset.params.profile.unit 0) (State.reset.params.profile.house 0)
    (State.reset.params.profile.cmd .on), by simp [encode, h, unitCodeFor]⟩

theorem test_witness_ResetState_panTiltFrame : ∃ b1 b2 : Byte,
    (State.reset.params.profile.cmd .on).toNat = ((b1.toNat &&& 0x0F) <<< 8) ||| b2.toNat := by
  have h : isPanTiltCode (State.reset.params.profile.cmd .on) = false :=
    Config.profile.admissible.isPanTiltCode_cmd .on
  generalize State.reset.params.profile.cmd .on = c at h ⊢
  have hc : (c.setWidth 8).setWidth 16 = c := by
    have h' : c &&& ~~~0xFF#16 = 0#16 := by simpa [isPanTiltCode, clr, Config.panTiltMask] using h
    ext i hi
    have hb := congrArg (fun x : BitVec 16 => x[i]) h'
    clear h h'
    interval_cases i <;> simp_all
  exact ⟨0, c.setWidth 8, by have := congrArg BitVec.toNat hc; simp at this ⊢; omega⟩

theorem test_witness_RestartForgetsTheBlockState :
    Usable (running [.restart] [] []) ∧ (running [.restart] [] []).schedule = [.restart] := ⟨usable_running .., rfl⟩

theorem test_witness_StepsNeverWriteTheTables :
    (nextState (step (running [.restart] [] []))).isSome = true := by decide

theorem test_witness_OutputsOnlyGrow :
    (nextState (step (running [.outbound] [.line ['+'] .accepted] []))).map
      (fun t => t.reports) = some [.tooShort] := by decide

theorem test_witness_StepKeepsTheInvariant :
    Inv (running [.outbound] [.line plusA1 .accepted] []) ∧
    framesOf (step (running [.outbound] [.line plusA1 .accepted] [])) = some [[0x20, 0x60, 0x9F, 0x00, 0xFF]] :=
  ⟨{ admissible := test_ref_admissible
     tickRate := by decide
     lastText := .inl rfl
     lastLine := fun h => absurd rfl h
     lines := fun _ h => nomatch h
     frames := fun _ h => nomatch h
     inFlight := fun h => nomatch h
     sent := fun _ h => nomatch h }, by decide⟩

theorem test_witness_AgentsTurnsCommute :
    (running [] [.line plusA1 .accepted] [⟨.fail, 0⟩]).inboundRunning = true ∧
    (running [] [.line plusA1 .accepted] [⟨.fail, 0⟩]).outboundRunning = true := by decide

/-- The same step taken over and over, the environment supplying again what it used. -/
theorem constant_run {s t : State} {turns : List Turn} {lines : List LineInput} {reads : List ReadInput}
    (h : step s = .next t) (e : s = t.supply turns lines reads) : IsRun (fun _ => s) :=
  fun _ => ⟨t, turns, lines, reads, h, e⟩

/-- Polled with a timeout at every turn. -/
def polledState : State :=
  { running [.inbound] [] [⟨.timeout, 0⟩] with agent := .inbound, inResult := some .idle }

/-- An empty line at every turn; the inbound agent waits for the initialisation frames. -/
def linesState : State :=
  { running [.outbound] [.line [] .accepted] [] with initSent := false, outResult := some .noOp }

theorem fair_polled : FairRun (fun _ => polledState) where
  run := constant_run (t := { polledState with schedule := [], reads := [] })
    (turns := [.inbound]) (lines := []) (reads := [⟨.timeout, 0⟩]) rfl rfl
  weaklyFair := fun a n => ⟨n, le_rfl, by
    cases a
    · exact fun h => absurd rfl h.2
    · exact fun _ => rfl⟩
  polled := fun n => ⟨n, le_rfl, fun _ => ⟨rfl, List.cons_ne_nil _ _⟩⟩

theorem fair_lines : FairRun (fun _ => linesState) where
  run := constant_run (t := { linesState with schedule := [], lines := [] })
    (turns := [.outbound]) (lines := [.line [] .accepted]) (reads := []) rfl rfl
  weaklyFair := fun a n => ⟨n, le_rfl, by
    cases a
    · exact fun _ => rfl
    · rintro (h | h)
      · exact absurd rfl h.2
      · exact absurd h.2.1 Bool.false_ne_true⟩
  polled := fun n => ⟨n, le_rfl, fun h => absurd h.2.2 Bool.false_ne_true⟩

/-- A fair run for the first clause, and one for the other two. -/
theorem test_witness_FairRunsServeBothAgents :
    (FairRun (fun _ => linesState) ∧ linesState.outboundRunning = true ∧
      linesState.lines = [.line [] .accepted]) ∧
    (FairRun (fun _ => polledState) ∧ ReadyToRead polledState ∧ polledState.reads = [⟨.timeout, 0⟩] ∧
      polledState.shutdownFlag = false ∧ (∀ b, polledState.schedule.head? ≠ some (.shutdown b)) ∧
      polledState.schedule.head? ≠ some .restart ∧
      ∀ x, polledState.reads.head? = some x → x.result ≠ .fail) :=
  ⟨⟨fair_lines, rfl, rfl⟩, fair_polled, ⟨rfl, fun h => absurd h Bool.false_ne_true, rfl⟩, rfl, rfl,
    by decide, by decide, by rintro x ⟨⟩; decide⟩

end Sys2Proof.Tests
end

section
/-! What the decoder's and the parser's answers tell of the Command they answer: they come from the reverse lookups and
from the range check. -/

namespace Sys2Proof

theorem lookupCommand_decoded_iff {p : Profile} {hc : Byte} {uc cc : Code} {i : Instr} :
    lookupCommand p hc uc cc = .decoded i ↔
      ∃ l n k, p.codeToHouse hc = some l ∧ p.codeToUnit uc = some n ∧ p.codeToKind cc = some k ∧
        i = Command.instr ⟨k, l, unitNumber n⟩ := by
  unfold lookupCommand
  cases p.codeToHouse hc <;> cases p.codeToUnit uc <;> cases p.codeToKind cc <;> simp [eq_comm]

/-- Every decoded instruction is the answer of the three reverse lookups to some codes (R94, R95). -/
theorem lookupCommand_of_decode {p : Profile} {f : Frame} {i : Instr} (h : decode p f = .decoded i) :
    ∃ hc uc cc, lookupCommand p hc uc cc = .decoded i := by
  unfold decode at h
  split_ifs at h
  split at h
  · cases h
  · split_ifs at h <;> split at h
    · exact ⟨_, _, _, h⟩
    · cases h
    · exact ⟨_, _, _, h⟩
    · cases h

theorem decode_unit_range {p : Profile} {f : Frame} {i : Instr} (h : decode p f = .decoded i) :
    1 ≤ i.command.unit ∧ i.command.unit ≤ 16 := by
  obtain ⟨_, _, _, h⟩ := lookupCommand_of_decode h
  obtain ⟨l, n, k, -, -, -, rfl⟩ := lookupCommand_decoded_iff.1 h
  simp only [Command.instr_command, unitNumber]
  omega

theorem parseUnit_ok {k : Kind} {l : House} {ds : Text} {c : Command} (h : parseUnit k l ds = .ok c) :
    c = ⟨k, l, unitValue ds⟩ ∧ unitInRange k (unitValue ds) = true := by
  unfold parseUnit at h
  split_ifs at h with _ _ hr
  cases h
  exact ⟨rfl, hr⟩

/-- The Command of an accepted line comes from its last check, the unit's. -/
theorem parse_ok {line : Text} {c : Command} (h : parse line = .ok c) :
    ∃ k l ds, parseUnit k l ds = .ok c := by
  unfold parse at h
  split at h
  · cases h
  · cases h
  · split_ifs at h
    split at h
    · cases h
    · split at h
      · cases h
      · exact ⟨_, _, _, h⟩

theorem parse_ok_wellFormed {line : Text} {c : Command} (h : parse line = .ok c) : c.wellFormed = true := by
  obtain ⟨k, l, ds, h⟩ := parse_ok h
  obtain ⟨rfl, hr⟩ := parseUnit_ok h
  exact hr

end Sys2Proof
end

section
/-! The invariant of a run (10_state.md R33): what it depends on, that each operation of a step keeps it, and from that
the obligations about it. -/

namespace Sys2Proof.Machine

/-- The canonical text of a decoded instruction's Command. -/
theorem canonicalText_of_decode {p : Profile} {f : Frame} {i : Instr} (h : decode p f = .decoded i) :
    CanonicalText p (format p i.command) :=
  ⟨i.command, (decode_unit_range h).1, (decode_unit_range h).2, rfl⟩

/-- A transition that appends nothing to the outputs keeps the invariant if it leaves DebounceState or clears its text,
leaves a read in flight only after the initialisation frames, and records no new `sent`. -/
theorem Inv.of_same_outputs {s t : State} (h : Inv s) (hparams : t.params = s.params)
    (hdeb : t.debounce = s.debounce ∨ t.debounce.lastText = []) (hlines : t.linesOut = s.linesOut)
    (hframes : t.framesOut = s.framesOut) (hflight : t.readInFlight = true → t.initSent = true)
    (hsent : ∀ f, t.outResult = some (.sent f) → s.outResult = some (.sent f)) : Inv t where
  admissible := hparams ▸ h.admissible
  tickRate := hparams ▸ h.tickRate
  lastText := by
    rcases hdeb with hd | hd
    · rw [hparams, hd]; exact h.lastText
    · exact .inl hd
  lastLine hne := by
    rcases hdeb with hd | hd
    · rw [hd] at hne ⊢; rw [hlines]; exact h.lastLine hne
    · exact absurd hd hne
  lines := by rw [hparams, hlines]; exact h.lines
  frames := by rw [hparams, hframes]; exact h.frames
  inFlight := hflight
  sent f hf := hframes ▸ h.sent f (hsent f hf)

variable {s : State}

theorem Inv.takeTurn (h : Inv s) (rest : List Turn) : Inv (s.takeTurn rest) :=
  h.of_same_outputs rfl (.inl rfl) rfl rfl h.inFlight (fun _ => id)

theorem Inv.beginLine (h : Inv s) (ls : List LineInput) (a : WriteAnswer) : Inv (s.beginLine ls a) :=
  h.of_same_outputs rfl (.inl rfl) rfl rfl h.inFlight (fun _ => id)

theorem Inv.beginRead (h : Inv s) (rs : List ReadInput) (now : Int) : Inv (s.beginRead rs now) :=
  h.of_same_outputs rfl (.inl rfl) rfl rfl (by simp) (fun _ => id)

theorem Inv.endLines (h : Inv s) : Inv s.endLines :=
  h.of_same_outputs rfl (.inl rfl) rfl rfl h.inFlight (by simp)

theorem Inv.skipLine (h : Inv s) : Inv s.skipLine :=
  h.of_same_outputs rfl (.inl rfl) rfl rfl h.inFlight (by simp)

theorem Inv.failWrite (h : Inv s) : Inv s.failWrite :=
  h.of_same_outputs rfl (.inl rfl) rfl rfl h.inFlight (by simp)

theorem Inv.reject (h : Inv s) (e : ValidationError) : Inv (s.reject e) :=
  h.of_same_outputs rfl (.inl rfl) rfl rfl h.inFlight (by simp)

theorem Inv.exitLoop (h : Inv s) : Inv s.exitLoop :=
  h.of_same_outputs rfl (.inl rfl) rfl rfl h.inFlight (fun _ => id)

theorem Inv.halt (h : Inv s) : Inv s.halt :=
  h.of_same_outputs rfl (.inl rfl) rfl rfl h.inFlight (fun _ => id)

theorem Inv.finishInbound (h : Inv s) (o : InboundOutcome) : Inv (s.finishInbound o) :=
  h.of_same_outputs rfl (.inl rfl) rfl rfl h.inFlight (fun _ => id)

theorem Inv.sendInit (h : Inv s) : Inv s.sendInit :=
  h.of_same_outputs rfl (.inl rfl) rfl rfl (fun _ => rfl) (fun _ => id)

theorem Inv.restart (h : Inv s) : Inv s.restart :=
  h.of_same_outputs rfl (.inr rfl) rfl rfl (by simp) (fun _ => id)

theorem Inv.requestShutdown (h : Inv s) {b : Bool} (hb : b = true → s.initSent = true) :
    Inv (s.requestShutdown b) := by
  rcases requestShutdown_cases s b with e | e <;> rw [e]
  · exact h
  · exact h.of_same_outputs rfl (.inl rfl) rfl rfl hb (fun _ => id)

theorem Inv.writeFrame (h : Inv s) {f : Frame} (hf : EncodedFrame s.params f) : Inv (s.writeFrame f) where
  admissible := h.admissible
  tickRate := h.tickRate
  lastText := h.lastText
  lastLine := h.lastLine
  lines := h.lines
  frames g hg := by
    rcases List.mem_append.1 hg with hg | hg
    · exact h.frames g hg
    · rw [List.mem_singleton.1 hg]; exact hf
  inFlight := h.inFlight
  sent g hg := by
    obtain rfl : f = g := by simpa using hg
    simp

/-- An emission: the text becomes `lastText` and its line the last one written (R117, R121). -/
theorem Inv.emit (h : Inv s) {x : Text} (hx : CanonicalText s.params.profile x) (now : Int) :
    Inv ((s.setDebounce ⟨x, now⟩).lineOut x) where
  admissible := h.admissible
  tickRate := h.tickRate
  lastText := .inr hx
  lastLine _ := by simp
  lines l hl := by
    rcases List.mem_append.1 hl with hl | hl
    · exact h.lines l hl
    · exact ⟨x, hx, List.mem_singleton.1 hl⟩
  frames := h.frames
  inFlight := h.inFlight
  sent := h.sent

theorem Inv.receiveCommand (h : Inv s) {c : Command} (hc : CanonicalText s.params.profile (format s.params.profile c)) :
    Inv (receiveCommand c s) := by
  rcases receiveCommand_cases c s with e | e <;> rw [e]
  · exact h.finishInbound _
  · exact (h.emit hc _).finishInbound _

/-- Every step keeps the invariant. -/
theorem Inv.step {t : State} (h : Inv s) (hstep : step s = .next t) : Inv t := by
  rcases step_cases hstep with rfl | ⟨rest, rfl | ⟨ls, -, rfl⟩ | ⟨ls, a, -, hline⟩ | ⟨-, -, rfl⟩ |
    ⟨r, rs, -, -, hread⟩ | rfl | ⟨b, hb, -, rfl⟩ | ⟨-, rfl⟩⟩
  · exact h
  · exact h.takeTurn rest
  · exact ((h.takeTurn rest).beginLine ls _).endLines
  · have hbegun := (h.takeTurn rest).beginLine ls a
    rcases hline with ⟨line, c, f, hparse, henc, rfl | rfl⟩ | rfl | ⟨e, rfl⟩
    · exact hbegun.writeFrame ⟨c, parse_ok_wellFormed hparse, henc⟩
    · exact hbegun.failWrite
    · exact hbegun.skipLine
    · exact hbegun.reject e
  · exact (h.takeTurn rest).exitLoop
  · have hbegun := (h.takeTurn rest).beginRead rs r.now
    rcases hread with ⟨-, rfl⟩ | ⟨f, i, hdec, rfl⟩ | ⟨o, -, rfl⟩
    · exact hbegun.halt
    · exact hbegun.receiveCommand (canonicalText_of_decode hdec)
    · exact hbegun.finishInbound o
  · exact (h.takeTurn rest).sendInit
  · exact (h.takeTurn rest).requestShutdown hb
  · exact (h.takeTurn rest).restart

/-- The block after reset meets the invariant under any usable parameters. -/
theorem Inv.boot {q : Params} (hp : q.profile.Admissible) (ht : 0 < q.ticksPerMs) (now : Int) :
    Inv (State.boot q now) where
  admissible := hp
  tickRate := ht
  lastText := .inl rfl
  lastLine hne := absurd rfl hne
  lines _ hl := absurd hl List.not_mem_nil
  frames _ hf := absurd hf List.not_mem_nil
  inFlight hr := absurd hr Bool.false_ne_true
  sent _ hf := absurd hf (by simp [State.boot])

/-- Settles O59: each operation a step is made of keeps the invariant. -/
theorem stepKeepsTheInvariant : Obligations.StepKeepsTheInvariant := fun _ _ h hstep => h.step hstep

/-- Settles O58, since reset is a boot with an admissible profile and 1000 ticks a millisecond. -/
theorem invariantHoldsAtReset : Obligations.InvariantHoldsAtReset :=
  ⟨.boot Config.profile.admissible (by decide) _, rfl, rfl, rfl, rfl⟩

end Sys2Proof.Machine
end

section
/-! What a command on either agent changes, and who touches DebounceState (10_state.md R29, R45). -/

namespace Sys2Proof

/-- The encoder's only error is InvalidUnit (R83). -/
theorem encode_err {q : Params} {c : Command} {e : ValidationError} (h : encode q c = .err e) : e = .invalidUnit := by
  simp only [encode] at h
  split_ifs at h
  split at h <;> cases h
  rfl

end Sys2Proof

namespace Sys2Proof.Machine

variable {s t : State} {i : Instr}

theorem exec_outbound_next (ha : s.agent = .outbound) (h : exec i s = .next t) : t = sendCommand i.command s := by
  rw [exec_eq_runCommand, runCommand_outbound _ ha] at h
  exact (Host.Outcome.next.inj h).symm

theorem exec_inbound_next (ha : s.agent = .inbound) (h : exec i s = .next t) : t = receiveCommand i.command s := by
  rw [exec_eq_runCommand, runCommand_inbound _ ha] at h
  exact (Host.Outcome.next.inj h).symm

/-- The next states of a command on the outbound agent: its frame written, the write failed, or InvalidUnit. -/
theorem exec_outbound_cases (ha : s.agent = .outbound) (h : exec i s = .next t) :
    (∃ f, encode s.params i.command = .ok f ∧ (t = s.writeFrame f ∨ t = s.failWrite)) ∨ t = s.reject .invalidUnit := by
  rw [exec_outbound_next ha h]
  rcases sendCommand_cases i.command s with ⟨f, henc, e⟩ | ⟨x, henc, e⟩ <;> rw [e]
  · rcases frameOut_cases s f with ⟨-, e⟩ | ⟨-, e⟩ <;> rw [e]
    · exact .inl ⟨f, henc, .inl rfl⟩
    · exact .inl ⟨f, henc, .inr rfl⟩
  · exact .inr (by rw [encode_err henc])

/-- Settles O32, for each of the three next states of an outbound command. -/
theorem outboundCommandsLeaveTheRestUnchanged : Obligations.OutboundCommandsLeaveTheRestUnchanged := by
  intro s t i ha h
  rcases exec_outbound_cases ha h with ⟨f, henc, rfl | rfl⟩ | rfl
  · exact ⟨rfl, .inr ⟨f, henc, rfl⟩, .inl rfl⟩
  · exact ⟨rfl, .inl rfl, .inl rfl⟩
  · exact ⟨rfl, .inl rfl, .inr rfl⟩

/-- Settles O33: an inbound command is suppressed or emitted. -/
theorem inboundCommandsLeaveTheRestUnchanged : Obligations.InboundCommandsLeaveTheRestUnchanged := by
  intro s t i ha h
  rw [exec_inbound_next ha h]
  rcases receiveCommand_cases i.command s with e | e <;> rw [e]
  · exact ⟨rfl, .inl ⟨rfl, rfl⟩⟩
  · exact ⟨rfl, .inr ⟨rfl, rfl⟩⟩

/-- A command that changes DebounceState was emitted. -/
theorem receiveCommand_emits {c : Command} (h : (receiveCommand c s).debounce ≠ s.debounce) :
    ∃ x, (receiveCommand c s).inResult = some (.emit x) := by
  rcases receiveCommand_cases c s with e | e <;> rw [e] at h ⊢
  · exact absurd rfl h
  · exact ⟨_, rfl⟩

/-- A step that changes DebounceState is an inbound turn that emits, or a restart (R29, log 15). -/
theorem step_debounce_ne (h : step s = .next t) (hne : t.debounce ≠ s.debounce) :
    (∃ rest x, s.schedule = .inbound :: rest ∧ t.inResult = some (.emit x)) ∨
      ∃ rest, s.schedule = .restart :: rest := by
  rcases step_cases h with rfl | ⟨rest, rfl | ⟨ls, -, rfl⟩ | ⟨ls, a, -, hline⟩ | ⟨-, -, rfl⟩ |
    ⟨r, rs, hs, -, hread⟩ | rfl | ⟨b, -, -, rfl⟩ | ⟨hs, -⟩⟩
  · exact absurd rfl hne
  · exact absurd rfl hne
  · exact absurd rfl hne
  · rcases hline with ⟨line, c, f, -, -, rfl | rfl⟩ | rfl | ⟨e, rfl⟩ <;> exact absurd rfl hne
  · exact absurd rfl hne
  · rcases hread with ⟨-, rfl⟩ | ⟨f, i, -, rfl⟩ | ⟨o, -, rfl⟩
    · exact absurd rfl hne
    · obtain ⟨x, hx⟩ := receiveCommand_emits hne
      exact .inl ⟨rest, x, hs, hx⟩
    · exact absurd rfl hne
  · exact absurd rfl hne
  · exact absurd (requestShutdown_debounce _ b) hne
  · exact .inr ⟨rest, hs⟩

@[simp] theorem mapNext_next (g : State → State) (s : State) : mapNext g (.next s) = .next (g s) := rfl
@[simp] theorem mapNext_fault (g : State → State) (r : Fault) : mapNext g (.fault r) = .fault r := rfl
@[simp] theorem mapNext_refused (g : State → State) (r : Refusal) : mapNext g (.refused r) = .refused r := rfl

variable (s) (d : DebounceState)

@[simp] theorem beginLine_setDebounce (ls : List LineInput) (a : WriteAnswer) :
    (s.setDebounce d).beginLine ls a = (s.beginLine ls a).setDebounce d := rfl
@[simp] theorem writeFrame_setDebounce (f : Frame) :
    (s.setDebounce d).writeFrame f = (s.writeFrame f).setDebounce d := rfl
@[simp] theorem failWrite_setDebounce : (s.setDebounce d).failWrite = s.failWrite.setDebounce d := rfl
@[simp] theorem reject_setDebounce (e : ValidationError) :
    (s.setDebounce d).reject e = (s.reject e).setDebounce d := rfl
@[simp] theorem skipLine_setDebounce : (s.setDebounce d).skipLine = s.skipLine.setDebounce d := rfl
@[simp] theorem endLines_setDebounce : (s.setDebounce d).endLines = s.endLines.setDebounce d := rfl

theorem frameOut_setDebounce (f : Frame) : (s.setDebounce d).frameOut f = (s.frameOut f).setDebounce d := by
  cases h : s.writeAnswer <;> simp [State.frameOut, h]

theorem sendCommand_setDebounce (c : Command) :
    sendCommand c (s.setDebounce d) = (sendCommand c s).setDebounce d := by
  cases h : encode s.params c <;> simp [sendCommand, h, frameOut_setDebounce]

/-- The outbound agent's handling of a line does not depend on DebounceState. -/
theorem handleLine_setDebounce (line : Text) (ha : s.agent = .outbound) :
    handleLine line (s.setDebounce d) = mapNext (·.setDebounce d) (handleLine line s) := by
  cases h : parse line with
  | ok c => simp [handleLine, h, exec_eq_runCommand, runCommand_outbound, ha, sendCommand_setDebounce]
  | noOp => simp [handleLine, h]
  | err e => simp [handleLine, h]

theorem outboundTurn_setDebounce :
    outboundTurn (s.setDebounce d) = mapNext (·.setDebounce d) (outboundTurn s) := by
  by_cases hrun : s.outboundRunning = true
  · cases hl : s.lines with
    | nil => simp [outboundTurn, hrun, hl]
    | cons x ls =>
      cases x with
      | line text a => simpa [outboundTurn, hrun, hl] using handleLine_setDebounce (s.beginLine ls a) d text rfl
      | endOfStream => simp [outboundTurn, hrun, hl]
  · simp [outboundTurn, hrun]

theorem requestShutdown_setDebounce (b : Bool) :
    (s.setDebounce d).requestShutdown b = (s.requestShutdown b).setDebounce d := by
  cases h : s.shutdownFlag <;> simp [State.requestShutdown, h]
  rfl

/-- Every turn but the inbound agent's and a restart commutes with replacing DebounceState (R29). -/
theorem takeTurn_setDebounce {turn : Turn} (hin : turn ≠ .inbound) (hre : turn ≠ .restart) :
    takeTurn turn (s.setDebounce d) = mapNext (·.setDebounce d) (takeTurn turn s) := by
  cases turn with
  | outbound =>
    by_cases hrun : s.outboundRunning = true ∨ s.inboundRunning = true
    · rw [takeTurn_outbound hrun, takeTurn_outbound (by simpa using hrun), outboundTurn_setDebounce]
    · simp only [not_or, Bool.not_eq_true] at hrun
      rw [(takeTurn_stopped hrun.1 hrun.2).1, (takeTurn_stopped (by simpa using hrun.1) (by simpa using hrun.2)).1,
        mapNext_fault]
  | inbound => exact absurd rfl hin
  | initFrames => rfl
  | shutdown b =>
    by_cases hb : b = true ∧ s.initSent = false
    · simp [takeTurn, hb.1, hb.2]
    · simp [takeTurn, hb, requestShutdown_setDebounce]
  | restart => exact absurd rfl hre

/-- Settles O42: by what a step can do, and by the commuting of each turn. -/
theorem onlyTheInboundAgentTouchesDebounceState : Obligations.OnlyTheInboundAgentTouchesDebounceState :=
  ⟨fun _ _ => step_debounce_ne, fun s d _ => takeTurn_setDebounce s d⟩

end Sys2Proof.Machine
end

section
/-! What a step refuses (log 14, log 18, log 19). -/

namespace Sys2Proof.Machine

variable {s : State} {rest : List Turn}

theorem step_inadmissible (h : ¬ s.params.profile.Admissible) : step s = .refused .inadmissibleProfile := by
  have hp : s.params.profile.admissible = false := by
    rwa [← Bool.not_eq_true, Profile.admissible_iff]
  simp [step, advance, hp]

theorem step_noTicks (hp : s.params.profile.Admissible) (ht : s.params.ticksPerMs = 0) :
    step s = .refused .nonPositiveTickRate := by
  simp [step, advance, (Profile.admissible_iff _).2 hp, ht]

/-- A turn of an inbound agent that runs and does not exit handles its next read, if the initialisation frames are out,
and refuses it otherwise (R114, R150). -/
theorem inboundTurn_read {r : ReadInput} {rs : List ReadInput} (hrun : s.inboundRunning = true)
    (hstay : s.shutdownFlag = true → s.readInFlight = true) (hr : s.reads = r :: rs) :
    inboundTurn s = if s.initSent then inbound r.result (s.beginRead rs r.now) else .refused .readBeforeInit := by
  have hexit : (s.shutdownFlag && !s.readInFlight) = false := by
    cases hf : s.shutdownFlag
    · rfl
    · simp [hstay hf]
  simp [inboundTurn, hrun, hexit, hr]

theorem step_inbound {r : ReadInput} {rs : List ReadInput} (hu : Usable s) (hrun : s.inboundRunning = true)
    (hstay : s.shutdownFlag = true → s.readInFlight = true) (hs : s.schedule = .inbound :: rest)
    (hr : s.reads = r :: rs) :
    step s = if s.initSent then inbound r.result ((s.takeTurn rest).beginRead rs r.now)
      else .refused .readBeforeInit := by
  rw [step_turn hu.1 hu.2 hs, takeTurn_inbound (s := s.takeTurn rest) (.inr hrun)]
  exact inboundTurn_read (s := s.takeTurn rest) hrun hstay hr

theorem decode_tooLong (p : Profile) {f : Frame} (h : 5 < f.length) : decode p f = .tooLong := if_pos h

theorem inbound_tooLong {f : Frame} (h : 5 < f.length) : inbound (.data f) s = .refused .frameTooLong := by
  simp [inbound, decode_tooLong _ h]

/-- Settles O50, each refusal from the check that makes it. -/
theorem refusalsOfTheMachine : Obligations.RefusalsOfTheMachine := by
  refine ⟨fun _ => step_inadmissible, fun _ => step_noTicks, ?_, ?_, ?_, ?_⟩
  · rintro s rest rs f now hu ⟨hrun, hstay, hinit⟩ hs hr hlen
    rw [step_inbound hu hrun hstay hs hr, if_pos hinit]
    exact inbound_tooLong hlen
  · intro s rest rs r hu hrun hstay hinit hs hr
    rw [step_inbound hu hrun hstay hs hr, if_neg (by simp [hinit])]
  · intro s rest hu hinit hs
    rw [step_turn hu.1 hu.2 hs]
    simp [takeTurn, hinit]
  · intro s rest hu hs
    rw [step_turn hu.1 hu.2 hs]
    rfl

end Sys2Proof.Machine
end

section
/-! How the fields of an encoded frame decode (10_state.md R23, 30_encoding.md R50 to R59): RT1 to RT7 are what the masks
need to separate the codes again. -/

namespace Sys2Proof

/-! ### The reverse lookups of an admissible profile -/

theorem find?_eq_some_of_unique {α : Type} {l : List α} {q : α → Bool} {a : α} (ha : a ∈ l) (hq : q a = true)
    (huniq : ∀ b, q b = true → b = a) : l.find? q = some a := by
  cases h : l.find? q with
  | none => exact absurd hq (List.find?_eq_none.1 h a ha)
  | some b => rw [huniq b (List.find?_some h)]

namespace Profile.Admissible

variable {p : Profile} (h : p.Admissible)
include h

theorem codeToHouse_house (l : House) : p.codeToHouse (p.house l) = some l :=
  find?_eq_some_of_unique (List.mem_finRange l) (by simp) fun m hm => h.1.1 m l (by simpa using hm)

theorem codeToKind_cmd (k : Kind) : p.codeToKind (p.cmd k) = some k :=
  find?_eq_some_of_unique (Kind.mem_all k) (by simp) fun j hj =>
    h.1.2.2 j (Kind.mem_all j) k (Kind.mem_all k) (by simpa using hj)

theorem lookupCommand_decoded (l : House) (k : Kind) {uc : Code} {n : UnitEntry} (hn : p.codeToUnit uc = some n) :
    lookupCommand p (p.house l) uc (p.cmd k) = .decoded (Command.instr ⟨k, l, unitNumber n⟩) := by
  simp [lookupCommand, h.codeToHouse_house, h.codeToKind_cmd, hn]

theorem lookupCommand_unrecognized (l : House) (k : Kind) {uc : Code} (hn : p.codeToUnit uc = none) :
    lookupCommand p (p.house l) uc (p.cmd k) = .unrecognizedCode := by
  simp [lookupCommand, h.codeToHouse_house, h.codeToKind_cmd, hn]

end Profile.Admissible

/-! ### What ENCODE answers -/

theorem unitCodeFor_unitNumber (q : Params) (k : Kind) (n : UnitEntry) :
    unitCodeFor q k (unitNumber n) = some (q.profile.unit n) := by
  have hn : 1 ≤ unitNumber n ∧ unitNumber n ≤ 16 := ⟨by simp [unitNumber], n.2⟩
  simp only [unitCodeFor, dif_pos hn]
  rfl

theorem encode_normal {q : Params} {k : Kind} {l : House} {u : Nat} {uc : Code}
    (hk : isPanTiltCode (q.profile.cmd k) = false) (hu : unitCodeFor q k u = some uc) :
    encode q ⟨k, l, u⟩ = .ok (encodeNormal uc (q.profile.house l) (q.profile.cmd k)) := by
  simp [encode, hk, hu]

theorem encode_panTilt {q : Params} {k : Kind} (l : House) (u : Nat) (hk : isPanTiltCode (q.profile.cmd k) = true) :
    encode q ⟨k, l, u⟩ = .ok (encodePanTilt (q.profile.cmd k) (q.profile.house l) (q.profile.cam l)) := by
  simp [encode, hk]

/-! ### Codes and masks -/

theorem clr_or (x y m : Code) : clr (x ||| y) m = clr x m ||| clr y m :=
  BitVec.and_or_distrib_right

theorem clr_eq_self {x m : Code} (h : x &&& m = 0) : clr x m = x := by
  ext i hi
  have hb : (x[i] && m[i]) = false := by simpa using congrArg (fun y : Code => y[i]) h
  revert hb
  cases hx : x[i] <;> simp [clr, hx]

theorem and_eq_self_of_clr {x m : Code} (h : clr x m = 0) : x &&& m = x := by
  ext i hi
  have hb : (x[i] && !m[i]) = false := by simpa [clr] using congrArg (fun y : Code => y[i]) h
  revert hb
  cases hx : x[i] <;> simp [hx]

/-- A normal code is its low byte (R76). -/
theorem and_lowByte_of_normal {x : Code} (h : isPanTiltCode x = false) : x &&& 0xFF = x :=
  and_eq_self_of_clr (by simpa [isPanTiltCode, Config.panTiltMask] using h)

/-- A code that fits byte 1's low nibble and byte 3 has 12 bits (RT2). -/
theorem and_twelveBits_of_fits {u : Code} (h : u >>> 8 ≤ 0x0F) : u &&& 0x0FFF = u := by
  have hu : u.toNat < 2 ^ 12 := by
    bv_omega
  apply BitVec.eq_of_toNat_eq
  rw [BitVec.toNat_and]
  exact (Nat.and_two_pow_sub_one_eq_mod _ 12).trans (Nat.mod_eq_of_lt hu)

theorem highNibble_of_fits {u : Code} (h : u >>> 8 ≤ 0x0F) : (u >>> 8).setWidth 8 &&& 0xF0 = (0 : Byte) := by
  rw [← and_twelveBits_of_fits h]
  ext i hi
  interval_cases i <;> simp

/-! ### The fields of an encoded frame -/

theorem getElem_of_lowNibble_zero {b : Byte} (h : b &&& 0x0F = 0) {i : Nat} (hi : i < 4) : b[i] = false := by
  have hb := congrArg (fun x : Byte => x[i]) h
  interval_cases i <;> simpa using hb

theorem normalHouseCode_encoded {hc : Byte} (h : hc &&& 0x0F = 0) (uc : Code) :
    normalHouseCode ((uc >>> 8).setWidth 8 ||| hc) = hc ||| ((uc >>> 8).setWidth 8 &&& 0xF0) := by
  have hlow := fun i => getElem_of_lowNibble_zero (i := i) h
  ext i hi
  interval_cases i <;> simp [normalHouseCode, hlow, Bool.or_comm]

/-- Byte 1's low nibble, moved to its place in a code, when the house code leaves it free (RT1). -/
theorem byteOne_lowNibble {hc : Byte} (h : hc &&& 0x0F = 0) (uc : Code) :
    (((uc >>> 8).setWidth 8 ||| hc) &&& 0x0F).setWidth 16 <<< 8 = uc &&& 0x0F00 := by
  have hlow := fun i => getElem_of_lowNibble_zero (i := i) h
  ext i hi
  interval_cases i <;> simp [hlow]

theorem byteThree_setWidth {cc : Code} (h : isPanTiltCode cc = false) (uc : Code) :
    ((uc &&& 0xFF).setWidth 8 ||| cc.setWidth 8).setWidth 16 = (uc &&& 0xFF) ||| cc := by
  conv_rhs => rw [← and_lowByte_of_normal h]
  ext i hi
  interval_cases i <;> simp

theorem normalCmdCode_encoded {p : Profile} {cc : Code} (hn : isPanTiltCode cc = false) (h4 : clr cc p.offCode = 0)
    (uc : Code) :
    normalCmdCode p ((uc &&& 0xFF).setWidth 8 ||| cc.setWidth 8) = cc ||| (uc &&& 0xFF &&& p.offCode) := by
  rw [normalCmdCode, byteThree_setWidth hn, BitVec.and_or_distrib_right, and_eq_self_of_clr h4, BitVec.or_comm]

/-- The unit bits come back up to those that OFF_CODE masks, when neither the house code nor the command code adds to
them. -/
theorem normalUnitCode_encoded {p : Profile} {hc : Byte} {cc : Code} (h1 : hc &&& 0x0F = 0)
    (hn : isPanTiltCode cc = false) (hoff : isPanTiltCode p.offCode = false) (h4 : clr cc p.offCode = 0) (uc : Code) :
    normalUnitCode p ((uc >>> 8).setWidth 8 ||| hc) ((uc &&& 0xFF).setWidth 8 ||| cc.setWidth 8) =
      clr (uc &&& 0x0FFF) p.offCode := by
  have hhigh : clr (uc &&& 0x0F00) p.offCode = uc &&& 0x0F00 := by
    apply clr_eq_self
    rw [← and_lowByte_of_normal hoff]
    ext i hi
    interval_cases i <;> simp
  calc normalUnitCode p ((uc >>> 8).setWidth 8 ||| hc) ((uc &&& 0xFF).setWidth 8 ||| cc.setWidth 8)
      = (uc &&& 0x0F00) ||| clr ((uc &&& 0xFF) ||| cc) p.offCode := by
        rw [normalUnitCode, byteOne_lowNibble h1, byteThree_setWidth hn]
    _ = clr ((uc &&& 0x0F00) ||| (uc &&& 0xFF)) p.offCode := by
        rw [clr_or, h4, clr_or, hhigh]; simp
    _ = clr (uc &&& 0x0FFF) p.offCode := by
        rw [← BitVec.and_or_distrib_left]; rfl

/-- A pan/tilt command code comes back when it has 12 bits and the cam contribution's low nibble adds none (RT6, RT7). -/
theorem panTiltCmdCode_encoded {cc : Code} {cam : Byte} (h6 : cc ≤ 0x0FFF)
    (h7 : clr (cam.setWidth 16 &&& 0x0F) (cc >>> 8) = 0) :
    panTiltCmdCode ((cc >>> 8).setWidth 8 ||| cam) ((cc &&& 0xFF).setWidth 8) = cc := by
  have hnibble : ((cc >>> 8).setWidth 8 ||| cam) &&& (0x0F : Byte) = (cc >>> 8).setWidth 8 &&& 0x0F := by
    ext i hi
    have hb := congrArg (fun x : Code => x[i]) (and_eq_self_of_clr h7)
    clear h6 h7
    interval_cases i <;> simp_all
  have hfits : cc >>> 8 ≤ 0x0F := by bv_omega
  rw [panTiltCmdCode, hnibble]
  conv_rhs => rw [← and_twelveBits_of_fits hfits]
  ext i hi
  interval_cases i <;> simp

/-! ### DECODE of an encoded frame -/

theorem decode_encodeNormal {p : Profile} {k : Kind} {l : House} (hp : p.Admissible) (hk : k.isPanTilt = false)
    (h1 : p.RT1 l) (h4 : p.RT4 k) (uc : Code) :
    decode p (encodeNormal uc (p.house l) (p.cmd k)) =
      lookupCommand p (p.house l ||| ((uc >>> 8).setWidth 8 &&& 0xF0)) (clr (uc &&& 0x0FFF) p.offCode)
        (p.cmd k ||| (uc &&& 0xFF &&& p.offCode)) := by
  have hn : isPanTiltCode (p.cmd k) = false := (hp.isPanTiltCode_cmd k).trans hk
  have hoff : isPanTiltCode p.offCode = false := hp.isPanTiltCode_cmd .off
  rw [← normalHouseCode_encoded h1, ← normalUnitCode_encoded h1 hn hoff h4, ← normalCmdCode_encoded hn h4]
  rfl

/-- A unit code that fits its fields (RT2, RT3) is looked up as it is, with the house and the command sent. -/
theorem decode_encodeNormal_of_fits {p : Profile} {k : Kind} {l : House} (hp : p.Admissible)
    (hk : k.isPanTilt = false) (h1 : p.RT1 l) (h4 : p.RT4 k) {uc : Code} (h2 : uc >>> 8 ≤ 0x0F)
    (h3 : uc &&& 0xFF &&& p.offCode = 0) :
    decode p (encodeNormal uc (p.house l) (p.cmd k)) = lookupCommand p (p.house l) uc (p.cmd k) := by
  have hoff : 0xFF &&& p.offCode = p.offCode := by
    rw [BitVec.and_comm]
    exact and_lowByte_of_normal (hp.isPanTiltCode_cmd .off)
  have hclr : clr uc p.offCode = uc := clr_eq_self (by rw [← hoff, ← BitVec.and_assoc, h3])
  rw [decode_encodeNormal hp hk h1 h4, highNibble_of_fits h2, and_twelveBits_of_fits h2, h3, hclr]
  simp

theorem decode_encodePanTilt {p : Profile} {k : Kind} {l : House} (h6 : p.RT6 k) (h7 : p.RT7 l k) :
    decode p (encodePanTilt (p.cmd k) (p.house l) (p.cam l)) =
      lookupCommand p (p.house l) (p.unit 0) (p.cmd k) :=
  congrArg (lookupCommand p (p.house l) (p.unit 0)) (panTiltCmdCode_encoded h6 h7)

/-! ### The obligations -/

theorem highNibble_six {b : Byte} : b.extractLsb' 4 4 = 6 → b &&& 0xF0 = 0x60 := by
  revert b
  decide

/-- Settles O4: byte 1's high nibble is the house code's under RT1 and RT2. -/
theorem exampleFixesTheCodeOfHouseA : Obligations.ExampleFixesTheCodeOfHouseA := by
  rintro q f b1 ⟨hp, hRT1, hRTunit, -⟩ henc hb1 hsix
  have hon : isPanTiltCode (q.profile.cmd .on) = false := hp.isPanTiltCode_cmd .on
  cases (encode_normal hon (unitCodeFor_unitNumber q .on 0)).symm.trans henc
  cases hb1
  calc q.profile.house 0
      = normalHouseCode ((q.profile.unit 0 >>> 8).setWidth 8 ||| q.profile.house 0) := by
        rw [normalHouseCode_encoded (hRT1 0), highNibble_of_fits (hRTunit 0).1]; simp
    _ = 0x60 := highNibble_six hsix

/-- R88 for one normal Command, from its own codes. -/
theorem decode_encode_normal {q : Params} {k : Kind} {l : House} {n : UnitEntry} (hp : q.profile.Admissible)
    (hk : k.isPanTilt = false) (h1 : q.profile.RT1 l) (h2 : q.profile.RT2 n) (h3 : q.profile.RT3 n)
    (h4 : q.profile.RT4 k) (h5 : q.profile.RT5 n) :
    ∃ f, encode q ⟨k, l, unitNumber n⟩ = .ok f ∧
      decode q.profile f = .decoded (Command.instr ⟨k, l, unitNumber n⟩) := by
  refine ⟨_, encode_normal ((hp.isPanTiltCode_cmd k).trans hk) (unitCodeFor_unitNumber q k n), ?_⟩
  rw [decode_encodeNormal_of_fits hp hk h1 h4 h2 h3, hp.lookupCommand_decoded l k h5]

/-- R88 for one pan/tilt Command, from its own codes: its unit comes back as 1. -/
theorem decode_encode_panTilt {q : Params} {k : Kind} {l : House} (hp : q.profile.Admissible)
    (hk : k.isPanTilt = true) (h5 : q.profile.RT5 0) (h6 : q.profile.RT6 k) (h7 : q.profile.RT7 l k) (u : Nat) :
    ∃ f, encode q ⟨k, l, u⟩ = .ok f ∧ decode q.profile f = .decoded (Command.instr ⟨k, l, 1⟩) := by
  refine ⟨_, encode_panTilt l u ((hp.isPanTiltCode_cmd k).trans hk), ?_⟩
  rw [decode_encodePanTilt h6 h7, hp.lookupCommand_decoded l k h5]
  rfl

theorem unitCodeFor_zero (q : Params) {k : Kind} (hk : k = .dim ∨ k = .bright) :
    unitCodeFor q k 0 = some q.unit0Code := by
  simp [unitCodeFor, hk]

/-- Settles O11, by what decoding an encoded frame looks up. -/
theorem casesOutsideTheRoundTripLawDecodeByTheirCodes :
    Obligations.CasesOutsideTheRoundTripLawDecodeByTheirCodes := by
  refine ⟨fun q k l hp => ⟨fun n hk h1 h2 h3 h4 h5 => decode_encode_normal hp hk h1 h2 h3 h4 h5,
    fun u hk h5 h6 h7 => decode_encode_panTilt hp hk h5 h6 h7 u⟩, ?_⟩
  rintro q k l ⟨hp, hRT1, hRTunit, hRT4, -⟩ hdim
  have hk : k.isPanTilt = false := by rcases hdim with rfl | rfl <;> rfl
  have h4 : q.profile.RT4 k := hRT4 k (Kind.mem_all k) hk
  refine ⟨_, encode_normal ((hp.isPanTiltCode_cmd k).trans hk) (unitCodeFor_zero q hdim),
    decode_encodeNormal hp hk (hRT1 l) h4 _, fun h2 h3 => ?_, fun hu => ?_⟩
  · rw [decode_encodeNormal_of_fits hp hk (hRT1 l) h4 h2 h3]
    exact ⟨fun n hn => hp.lookupCommand_decoded l k hn, hp.lookupCommand_unrecognized l k⟩
  · obtain ⟨h2, h3, h5⟩ := hRTunit 0
    rw [hu, decode_encodeNormal_of_fits hp hk (hRT1 l) h4 h2 h3]
    exact hp.lookupCommand_decoded l k h5

end Sys2Proof
end

section
/-! What one step writes: no code table, and at most one item at the end of each output (10_state.md R35,
20_memory.md R46, R48). -/

namespace Sys2Proof.Machine

variable {s t : State}

/-- The parameters stay, and each output stays or gets one more item at its end. -/
theorem step_appends (h : step s = .next t) :
    t.params = s.params ∧
    (t.framesOut = s.framesOut ∨ ∃ f, t.framesOut = s.framesOut ++ [f]) ∧
    (t.linesOut = s.linesOut ∨ ∃ l, t.linesOut = s.linesOut ++ [l]) ∧
    (t.reports = s.reports ∨ ∃ e, t.reports = s.reports ++ [e]) := by
  rcases step_cases h with rfl | ⟨rest, rfl | ⟨ls, -, rfl⟩ | ⟨ls, a, -, hline⟩ | ⟨-, -, rfl⟩ |
    ⟨r, rs, -, -, hread⟩ | rfl | ⟨b, -, -, rfl⟩ | ⟨-, rfl⟩⟩
  · exact ⟨rfl, .inl rfl, .inl rfl, .inl rfl⟩
  · exact ⟨rfl, .inl rfl, .inl rfl, .inl rfl⟩
  · exact ⟨rfl, .inl rfl, .inl rfl, .inl rfl⟩
  · rcases hline with ⟨line, c, f, -, -, rfl | rfl⟩ | rfl | ⟨e, rfl⟩
    · exact ⟨rfl, .inr ⟨f, rfl⟩, .inl rfl, .inl rfl⟩
    · exact ⟨rfl, .inl rfl, .inl rfl, .inl rfl⟩
    · exact ⟨rfl, .inl rfl, .inl rfl, .inl rfl⟩
    · exact ⟨rfl, .inl rfl, .inl rfl, .inr ⟨e, rfl⟩⟩
  · exact ⟨rfl, .inl rfl, .inl rfl, .inl rfl⟩
  · rcases hread with ⟨-, rfl⟩ | ⟨f, i, -, rfl⟩ | ⟨o, -, rfl⟩
    · exact ⟨rfl, .inl rfl, .inl rfl, .inl rfl⟩
    · rcases receiveCommand_cases i.command ((s.takeTurn rest).beginRead rs r.now) with e | e <;> rw [e]
      · exact ⟨rfl, .inl rfl, .inl rfl, .inl rfl⟩
      · exact ⟨rfl, .inl rfl, .inr ⟨_, rfl⟩, .inl rfl⟩
    · exact ⟨rfl, .inl rfl, .inl rfl, .inl rfl⟩
  · exact ⟨rfl, .inl rfl, .inl rfl, .inl rfl⟩
  · exact ⟨requestShutdown_params _ b, .inl (requestShutdown_framesOut _ b), .inl (requestShutdown_linesOut _ b),
      .inl (requestShutdown_reports _ b)⟩
  · exact ⟨rfl, .inl rfl, .inl rfl, .inl rfl⟩

/-- Settles O56, from what a step writes. -/
theorem stepsNeverWriteTheTables : Obligations.StepsNeverWriteTheTables := fun _ _ h => (step_appends h).1

/-- Settles O57, from what a step writes. -/
theorem outputsOnlyGrow : Obligations.OutputsOnlyGrow := fun _ _ h => (step_appends h).2

end Sys2Proof.Machine
end

section
/-! The two agents' turns commute (20_memory.md R45). A state is put together from the fields the outbound agent writes,
the fields the inbound agent writes, and those both only read; a turn of one agent is a function of its own fields and of
the shared ones. -/

namespace Sys2Proof.Machine

/-- `s` with the latch `a` and the turns `turns` to come, the outbound agent's fields taken from `o` and the inbound
agent's from `i`. -/
def State.join (s o i : State) (a : Agent) (turns : List Turn) : State :=
  { s with
    agent := a, schedule := turns,
    outboundRunning := o.outboundRunning, lines := o.lines, writeAnswer := o.writeAnswer, framesOut := o.framesOut,
    reports := o.reports, outResult := o.outResult,
    inboundRunning := i.inboundRunning, readInFlight := i.readInFlight, reads := i.reads, now := i.now,
    debounce := i.debounce, linesOut := i.linesOut, inResult := i.inResult }

variable (s : State) {o i t : State} {a : Agent} {turns : List Turn}

theorem join_self : s.join s s s.agent turns = { s with schedule := turns } := rfl

@[simp] theorem join_params : (s.join o i a turns).params = s.params := rfl
@[simp] theorem join_agent : (s.join o i a turns).agent = a := rfl
@[simp] theorem join_initSent : (s.join o i a turns).initSent = s.initSent := rfl
@[simp] theorem join_shutdownFlag : (s.join o i a turns).shutdownFlag = s.shutdownFlag := rfl
@[simp] theorem join_outboundRunning : (s.join o i a turns).outboundRunning = o.outboundRunning := rfl
@[simp] theorem join_lines : (s.join o i a turns).lines = o.lines := rfl
@[simp] theorem join_writeAnswer : (s.join o i a turns).writeAnswer = o.writeAnswer := rfl
@[simp] theorem join_inboundRunning : (s.join o i a turns).inboundRunning = i.inboundRunning := rfl
@[simp] theorem join_readInFlight : (s.join o i a turns).readInFlight = i.readInFlight := rfl
@[simp] theorem join_reads : (s.join o i a turns).reads = i.reads := rfl
@[simp] theorem join_now : (s.join o i a turns).now = i.now := rfl
@[simp] theorem join_debounce : (s.join o i a turns).debounce = i.debounce := rfl

/-! ### The outbound agent's turn -/

@[simp] theorem join_beginLine (ls : List LineInput) (w : WriteAnswer) :
    (s.join o i a turns).beginLine ls w = s.join (o.beginLine ls w) i .outbound turns := rfl
@[simp] theorem join_endLines : (s.join o i a turns).endLines = s.join o.endLines i a turns := rfl
@[simp] theorem join_skipLine : (s.join o i a turns).skipLine = s.join o.skipLine i a turns := rfl
@[simp] theorem join_reject (e : ValidationError) :
    (s.join o i a turns).reject e = s.join (o.reject e) i a turns := rfl

theorem join_frameOut (f : Frame) : (s.join o i a turns).frameOut f = s.join (o.frameOut f) i a turns := by
  cases h : o.writeAnswer <;> simp [State.frameOut, h] <;> rfl

variable {s}

theorem sendCommand_join (c : Command) (ho : o.params = s.params) :
    sendCommand c (s.join o i a turns) = s.join (sendCommand c o) i a turns := by
  cases h : encode s.params c <;> simp [sendCommand, ho, h, join_frameOut]

theorem handleLine_join (line : Text) (ho : o.params = s.params) (ha : o.agent = .outbound) :
    handleLine line (s.join o i .outbound turns) =
      mapNext (fun t => s.join t i .outbound turns) (handleLine line o) := by
  cases h : parse line with
  | ok c =>
    simp [handleLine, h, exec_eq_runCommand, runCommand_outbound _ ha, runCommand_outbound _ (join_agent s),
      sendCommand_join c ho]
  | noOp => simp [handleLine, h]
  | err e => simp [handleLine, h]

theorem outboundTurn_join :
    ∃ b, outboundTurn (s.join s i a turns) = mapNext (fun t => s.join t i b turns) (outboundTurn s) := by
  by_cases hrun : s.outboundRunning = true
  · cases hl : s.lines with
    | nil => exact ⟨a, by simp [outboundTurn, hrun, hl]⟩
    | cons x ls =>
      refine ⟨.outbound, ?_⟩
      cases x with
      | line text w => 
        simpa [outboundTurn, hrun, hl] using handleLine_join (s := s) (o := s.beginLine ls w) text rfl rfl
      | endOfStream => simp [outboundTurn, hrun, hl]
  · exact ⟨a, by simp [outboundTurn, hrun]⟩

/-- The outbound agent's turn always has a next state: neither a fault nor a refusal. -/
theorem exists_outboundTurn_eq_next (s : State) : ∃ t, outboundTurn s = .next t := by
  rcases outboundTurn_cases s with h | ⟨ls, -, -, h⟩ | ⟨line, w, ls, -, -, h⟩
  · exact ⟨_, h⟩
  · exact ⟨_, h⟩
  · rcases handleLine_cases line (s := s.beginLine ls w) rfl with ⟨c, -, e⟩ | ⟨-, e⟩ | ⟨x, -, e⟩ <;>
      exact ⟨_, h.trans e⟩

/-! ### The inbound agent's turn -/

variable (s)

@[simp] theorem join_beginRead (rs : List ReadInput) (now : Int) :
    (s.join o i a turns).beginRead rs now = s.join o (i.beginRead rs now) .inbound turns := rfl
@[simp] theorem join_halt : (s.join o i a turns).halt = s.join o i.halt a turns := rfl
@[simp] theorem join_exitLoop : (s.join o i a turns).exitLoop = s.join o i.exitLoop a turns := rfl
@[simp] theorem join_finishInbound (x : InboundOutcome) :
    (s.join o i a turns).finishInbound x = s.join o (i.finishInbound x) a turns := rfl

variable {s}

theorem receiveCommand_join (c : Command) (hi : i.params = s.params) :
    receiveCommand c (s.join o i a turns) = s.join o (receiveCommand c i) a turns := by
  by_cases h : format i.params.profile c = i.debounce.lastText ∧
      i.now - i.debounce.lastTimestamp < 600 * i.params.ticksPerMs
  · rw [receiveCommand_suppress h, receiveCommand_suppress (by simpa [← hi] using h), join_finishInbound]
  · rw [receiveCommand_emit h, receiveCommand_emit (by simpa [← hi] using h), join_params, ← hi]
    rfl

theorem inbound_join (r : ReadResult) (hi : i.params = s.params) (ha : i.agent = .inbound) :
    inbound r (s.join o i .inbound turns) = mapNext (fun t => s.join o t .inbound turns) (inbound r i) := by
  cases r with
  | timeout => rfl
  | fail => rfl
  | data f =>
    cases h : decode s.params.profile f with
    | decoded c =>
      simp [inbound, hi, h, exec_eq_runCommand, runCommand_inbound _ ha, runCommand_inbound _ (join_agent s),
        receiveCommand_join _ hi]
    | idle => simp [inbound, hi, h]
    | ignored why => simp [inbound, hi, h]
    | unrecognizedCode => simp [inbound, hi, h]
    | tooLong => simp [inbound, hi, h]

theorem inboundTurn_join :
    ∃ b, inboundTurn (s.join o s a turns) = mapNext (fun t => s.join o t b turns) (inboundTurn s) := by
  by_cases hrun : s.inboundRunning = true
  · by_cases hexit : (s.shutdownFlag && !s.readInFlight) = true
    · exact ⟨a, by simp [inboundTurn, hrun, hexit]⟩
    · cases hl : s.reads with
      | nil => exact ⟨a, by simp [inboundTurn, hrun, hexit, hl]⟩
      | cons r rs =>
        refine ⟨.inbound, ?_⟩
        by_cases hinit : s.initSent = true
        · simpa [inboundTurn, hrun, hexit, hl, hinit] using
            inbound_join (s := s) (i := s.beginRead rs r.now) r.result rfl rfl
        · simp [inboundTurn, hrun, hexit, hl, hinit]
  · exact ⟨a, by simp [inboundTurn, hrun]⟩

/-! ### Both turns -/

@[simp] theorem andThen_next (k : State → Result) (s : State) : andThen k (.next s) = k s := rfl

theorem step_outbound_join (hu : Usable s) (hrun : s.outboundRunning = true) (ht : outboundTurn s = .next t) :
    ∃ b, step (s.join s i a (.outbound :: turns)) = .next (s.join t i b turns) := by
  obtain ⟨b, hb⟩ := outboundTurn_join (s := s) (i := i) (a := a) (turns := turns)
  refine ⟨b, ?_⟩
  calc step (s.join s i a (.outbound :: turns))
      = takeTurn .outbound (s.join s i a turns) := step_turn hu.1 hu.2 rfl
    _ = outboundTurn (s.join s i a turns) := takeTurn_outbound (.inl hrun)
    _ = .next (s.join t i b turns) := by rw [hb, ht, mapNext_next]

theorem step_inbound_join (hu : Usable s) (hrun : s.inboundRunning = true) :
    ∃ b, step (s.join o s a (.inbound :: turns)) = mapNext (fun t => s.join o t b turns) (inboundTurn s) := by
  obtain ⟨b, hb⟩ := inboundTurn_join (s := s) (o := o) (a := a) (turns := turns)
  refine ⟨b, ?_⟩
  calc step (s.join o s a (.inbound :: turns))
      = takeTurn .inbound (s.join o s a turns) := step_turn hu.1 hu.2 rfl
    _ = inboundTurn (s.join o s a turns) := takeTurn_inbound (.inr hrun)
    _ = mapNext (fun t => s.join o t b turns) (inboundTurn s) := hb

/-- Parameters that are not usable are refused whatever the turn. -/
theorem step_unusable (hu : ¬ Usable s) : ∃ r, ∀ turns, step { s with schedule := turns } = .refused r := by
  by_cases hp : s.params.profile.Admissible
  · have ht : s.params.ticksPerMs = 0 := not_not.1 fun ht => hu ⟨hp, ht⟩
    exact ⟨_, fun turns => step_noTicks (s := { s with schedule := turns }) hp ht⟩
  · exact ⟨_, fun turns => step_inadmissible (s := { s with schedule := turns }) hp⟩

/-- Settles O60: either order ends with the fields each agent's turn gives it on `s` alone. -/
theorem agentsTurnsCommute : Obligations.AgentsTurnsCommute := by
  intro s rest hin hout
  by_cases hu : Usable s
  · obtain ⟨t, ht⟩ := exists_outboundTurn_eq_next s
    obtain ⟨a₁, outFirst⟩ :=
      step_outbound_join (i := s) (a := s.agent) (turns := .inbound :: rest) hu hout ht
    obtain ⟨a₂, inSecond⟩ := step_inbound_join (o := t) (a := a₁) (turns := rest) hu hin
    obtain ⟨b₁, inFirst⟩ := step_inbound_join (o := s) (a := s.agent) (turns := .outbound :: rest) hu hin
    rw [join_self] at outFirst inFirst
    rw [outFirst, inFirst, andThen_next, inSecond]
    cases inboundTurn s with
    | next u =>
      obtain ⟨b₂, outSecond⟩ := step_outbound_join (i := u) (a := b₁) (turns := rest) hu hout ht
      simp only [mapNext_next, andThen_next, outSecond]
      rfl
    | fault r => rfl
    | refused r => rfl
  · obtain ⟨r, hr⟩ := step_unusable hu
    rw [hr, hr]

end Sys2Proof.Machine
end

section
/-! The bytes of an encoded frame (30_encoding.md R50 to R57, 41_encoder.md R82 to R85): the encoder's formulas on natural
numbers, and where RT1 to RT7 keep the two codes of a byte apart. -/

namespace Sys2Proof

/-! ### Bytes of codes -/

theorem toNat_highByte (c : Code) : ((c >>> 8).setWidth 8).toNat = c.toNat >>> 8 := by
  have hfits : c.toNat >>> 8 < 2 ^ 8 := by
    rw [Nat.shiftRight_eq_div_pow]
    omega
  rw [BitVec.toNat_setWidth, BitVec.toNat_ushiftRight, Nat.mod_eq_of_lt hfits]

theorem toNat_lowByte (c : Code) : ((c &&& 0xFF).setWidth 8).toNat = c.toNat &&& 0xFF := by
  have hfits : c.toNat &&& 0xFF < 2 ^ 8 := Nat.lt_succ_of_le Nat.and_le_right
  rw [BitVec.toNat_setWidth, BitVec.toNat_and]
  exact Nat.mod_eq_of_lt hfits

/-- A normal code is at most 0xFF (R76). -/
theorem toNat_le_of_normal {c : Code} (h : isPanTiltCode c = false) : c.toNat ≤ 0xFF := by
  rw [← and_lowByte_of_normal h, BitVec.toNat_and]
  exact Nat.and_le_right

theorem toNat_byteThree {cc : Code} (h : isPanTiltCode cc = false) (uc : Code) :
    ((uc &&& 0xFF).setWidth 8 ||| cc.setWidth 8 : Byte).toNat = (uc.toNat &&& 0xFF) ||| cc.toNat := by
  rw [← BitVec.toNat_setWidth_of_le (w' := 16) (by decide), byteThree_setWidth h, BitVec.toNat_or, BitVec.toNat_and]
  rfl

theorem not8_eq (b : Byte) : not8 b = ~~~b &&& 0xFF := by
  rw [not8, show (0xFF : Byte) = BitVec.allOnes 8 from rfl, BitVec.xor_allOnes, BitVec.and_allOnes]

theorem xor_not8 (b : Byte) : b ^^^ not8 b = 0xFF := by
  rw [not8, ← BitVec.xor_assoc, BitVec.xor_self, BitVec.zero_xor]

/-! ### The nibbles of byte 1 -/

/-- Byte 1's high nibble is the house code's, when the unit code leaves it free (RT2). -/
theorem byteOne_extract_high {uc : Code} (h : uc >>> 8 ≤ 0x0F) (hc : Byte) :
    ((uc >>> 8).setWidth 8 ||| hc).extractLsb' 4 4 = hc.extractLsb' 4 4 := by
  have hfree : ((uc >>> 8).setWidth 8 : Byte).extractLsb' 4 4 = 0 := by
    rw [← and_twelveBits_of_fits h]
    ext i hi
    interval_cases i <;> simp
  rw [BitVec.extractLsb'_or, hfree]
  exact BitVec.zero_or

/-- Byte 1's low nibble is bits 11:8 of the unit code, when the house code leaves it free (RT1). -/
theorem byteOne_extract_low {hc : Byte} (h : hc &&& 0x0F = 0) (uc : Code) :
    ((uc >>> 8).setWidth 8 ||| hc).extractLsb' 0 4 = uc.extractLsb' 8 4 := by
  have hlow := fun i => getElem_of_lowNibble_zero (i := i) h
  ext i hi
  interval_cases i <;> simp [hlow]

/-- Bits 11:8 of the command code the decoder assembles are byte 1's low nibble (R59). -/
theorem panTiltCmdCode_extract (b1 b2 : Byte) :
    (panTiltCmdCode b1 b2).extractLsb' 8 4 = b1.extractLsb' 0 4 := by
  ext i hi
  interval_cases i <;> simp [panTiltCmdCode]

/-! ### The encoder's answers -/

/-- A frame for a normal code is `encodeNormal` of some unit code (R82, R84). -/
theorem encode_ok_normal {q : Params} {c : Command} {f : Frame} (hk : isPanTiltCode (q.profile.cmd c.kind) = false)
    (h : encode q c = .ok f) : ∃ uc, f = encodeNormal uc (q.profile.house c.house) (q.profile.cmd c.kind) := by
  cases hu : unitCodeFor q c.kind c.unit with
  | some uc => exact ⟨uc, (EncodeResult.ok.inj ((encode_normal hk hu).symm.trans h)).symm⟩
  | none => simp [encode, hk, hu] at h

/-- For a normal kind the unit lookup fails exactly on the units out of range (R26, R83). -/
theorem unitCodeFor_eq_none_iff (q : Params) {k : Kind} (hk : k.isPanTilt = false) (u : Nat) :
    unitCodeFor q k u = none ↔ unitInRange k u = false := by
  have hnone : unitCodeFor q k u = none ↔ ¬ (1 ≤ u ∧ u ≤ 16) ∧ ¬ (u = 0 ∧ (k = .dim ∨ k = .bright)) := by
    unfold unitCodeFor
    split_ifs with htable hzero
    · simp [htable]
    · simp [hzero]
    · simp [htable, hzero]
  rw [hnone]
  cases k with
  | on | off => simp [unitInRange]
  | dim | bright => simp [unitInRange]; omega
  | up | down | left | right => cases hk

theorem unitInRange_of_panTilt {k : Kind} (hk : k.isPanTilt = true) (u : Nat) : unitInRange k u = true := by
  cases k with
  | on | off | dim | bright => cases hk
  | up | down | left | right => rfl

theorem encode_invalidUnit {q : Params} {k : Kind} (l : House) {u : Nat} (hk : isPanTiltCode (q.profile.cmd k) = false)
    (hu : unitCodeFor q k u = none) : encode q ⟨k, l, u⟩ = .err .invalidUnit := by
  simp [encode, hk, hu]

/-! ### The obligations -/

/-- Settles O5: byte 1 joins the two codes, and RT1 and RT2 leave each its nibble. -/
theorem normalByteOneIsUnitHighOrHouse : Obligations.NormalByteOneIsUnitHighOrHouse := by
  intro q k l n hk
  refine ⟨_, _, _, _, encode_normal hk (unitCodeFor_unitNumber q k n), ?_, Nat.le_of_lt_succ (BitVec.isLt _),
    fun h1 h2 => ⟨byteOne_extract_high h2 _, byteOne_extract_low h1 _⟩⟩
  rw [BitVec.toNat_or, toNat_highByte]

/-- Settles O6: byte 3 joins the two codes, and OFF_CODE's bits separate them under RT3 and RT4. -/
theorem normalByteThreeIsUnitLowOrCommand : Obligations.NormalByteThreeIsUnitLowOrCommand := by
  intro q k l n hk
  refine ⟨_, _, _, _, encode_normal hk (unitCodeFor_unitNumber q k n), toNat_byteThree hk _, toNat_le_of_normal hk,
    fun h3 h4 => ⟨?_, ?_⟩⟩
  · have hcmd := normalCmdCode_encoded hk h4 (q.profile.unit n)
    rw [h3] at hcmd
    exact hcmd.trans BitVec.or_zero
  · rw [byteThree_setWidth hk, clr_or, clr_eq_self h3, h4]
    exact BitVec.or_zero

/-- Settles O7: `encodeNormal` writes each byte's `not8` behind it. -/
theorem normalFramesCarryExactComplements : Obligations.NormalFramesCarryExactComplements := by
  intro q c f hk henc
  obtain ⟨uc, rfl⟩ := encode_ok_normal hk henc
  exact ⟨_, _, _, _, rfl, not8_eq _, not8_eq _, xor_not8 _, xor_not8 _⟩

/-- Settles O8: no byte depends on the unit, and under RT6 and RT7 the code decodes from bytes 1 and 2. -/
theorem panTiltBytesSplitTheCommandCode : Obligations.PanTiltBytesSplitTheCommandCode := by
  intro q k l hk
  refine ⟨_, _, _, fun u => encode_panTilt l u hk, ?_, Nat.le_of_lt_succ (BitVec.isLt _), toNat_lowByte _, rfl,
    fun h6 h7 => ?_⟩
  · rw [BitVec.toNat_or, toNat_highByte]
  · rw [← panTiltCmdCode_extract _ ((q.profile.cmd k &&& 0xFF).setWidth 8), panTiltCmdCode_encoded h6 h7]

/-- Settles O9: under A4 the kind's family is its code's, and only a normal frame's unit is looked up. -/
theorem frameShapeFollowsTheFamily : Obligations.FrameShapeFollowsTheFamily := by
  rintro q ⟨k, l, u⟩ hp
  have hcode : isPanTiltCode (q.profile.cmd k) = k.isPanTilt := hp.isPanTiltCode_cmd k
  cases hk : k.isPanTilt with
  | true =>
    have henc := encode_panTilt l u (hcode.trans hk)
    have hwf : Command.wellFormed ⟨k, l, u⟩ = true := unitInRange_of_panTilt hk u
    exact ⟨fun _ => ⟨_, henc, rfl, rfl⟩, by simp, by simp [henc, hwf]⟩
  | false =>
    have hwf : unitCodeFor q k u = none ↔ Command.wellFormed ⟨k, l, u⟩ = false := unitCodeFor_eq_none_iff q hk u
    cases hu : unitCodeFor q k u with
    | none =>
      have henc := encode_invalidUnit l (hcode.trans hk) hu
      exact ⟨by simp, by simp [hwf.1 hu], by simp [henc, hwf.1 hu]⟩
    | some uc =>
      have henc := encode_normal (l := l) (hcode.trans hk) hu
      exact ⟨by simp, fun _ _ => ⟨_, henc, rfl, rfl⟩, by simp [henc, ← hwf, hu]⟩

end Sys2Proof
end

section
/-! What a frame decodes to, by its fields (30_encoding.md R58, R59; 42_decoder.md R89 to R98), and what INBOUND does with
one that is not decoded (R114). -/

namespace Sys2Proof

/-! ### The reverse lookups, from the answer back to the code -/

theorem codeToHouse_eq_none_iff {p : Profile} {c : Byte} : p.codeToHouse c = none ↔ ∀ l : House, p.house l ≠ c := by
  simp [Profile.codeToHouse]

theorem codeToKind_eq_none_iff {p : Profile} {c : Code} : p.codeToKind c = none ↔ ∀ k : Kind, p.cmd k ≠ c := by
  simp [Profile.codeToKind]

/-- The command lookup answers only a kind whose whole code it was given (R75). -/
theorem cmd_of_codeToKind {p : Profile} {c : Code} {k : Kind} (h : p.codeToKind c = some k) : p.cmd k = c := by
  simpa using List.find?_some h

theorem Profile.Admissible.codeToHouse_eq_some_iff {p : Profile} (hp : p.Admissible) {c : Byte} {l : House} :
    p.codeToHouse c = some l ↔ p.house l = c :=
  ⟨fun h => by simpa using List.find?_some h, fun h => h ▸ hp.codeToHouse_house l⟩

theorem Profile.Admissible.codeToKind_eq_some_iff {p : Profile} (hp : p.Admissible) {c : Code} {k : Kind} :
    p.codeToKind c = some k ↔ p.cmd k = c :=
  ⟨cmd_of_codeToKind, fun h => h ▸ hp.codeToKind_cmd k⟩

theorem lookupCommand_unrecognized_iff {p : Profile} {hc : Byte} {uc cc : Code} :
    lookupCommand p hc uc cc = .unrecognizedCode ↔
      (∀ l : House, p.house l ≠ hc) ∨ p.codeToUnit uc = none ∨ ∀ k : Kind, p.cmd k ≠ cc := by
  rw [← codeToHouse_eq_none_iff, ← codeToKind_eq_none_iff]
  unfold lookupCommand
  cases p.codeToHouse hc <;> cases p.codeToUnit uc <;> cases p.codeToKind cc <;> simp

theorem Profile.Admissible.lookupCommand_decoded_iff {p : Profile} (hp : p.Admissible) {hc : Byte} {uc cc : Code}
    {i : Instr} :
    lookupCommand p hc uc cc = .decoded i ↔
      ∃ (l : House) (n : UnitEntry) (k : Kind), p.house l = hc ∧ p.codeToUnit uc = some n ∧ p.cmd k = cc ∧
        i = Command.instr ⟨k, l, unitNumber n⟩ := by
  simp only [Sys2Proof.lookupCommand_decoded_iff, hp.codeToHouse_eq_some_iff, hp.codeToKind_eq_some_iff]

/-! ### The decoder's fields on natural numbers -/

theorem toNat_clr (x m : Code) : (clr x m).toNat = x.toNat - (x.toNat &&& m.toNat) := by
  have hdisjoint : x &&& m &&& clr x m = 0 := by
    ext i hi
    cases hm : m[i] <;> simp [clr, hm]
  have hsplit : x &&& m ||| clr x m = x := by
    rw [clr, ← BitVec.and_or_distrib_left, BitVec.or_not_self, BitVec.and_allOnes]
  have hsum : (x &&& m).toNat + (clr x m).toNat = x.toNat := by
    rw [← BitVec.toNat_add_of_and_eq_zero hdisjoint, BitVec.add_eq_or_of_and_eq_zero _ _ hdisjoint, hsplit]
  rw [← BitVec.toNat_and]
  omega

/-- A byte's low nibble, moved to its place in a code. -/
theorem toNat_lowNibble_shift (b : Byte) :
    ((b &&& 0x0F).setWidth 16 <<< 8 : Code).toNat = (b.toNat &&& 0x0F) <<< 8 := by
  have hnibble : b.toNat &&& 0x0F ≤ 0x0F := Nat.and_le_right
  have hfits : (b.toNat &&& 0x0F) <<< 8 < 2 ^ 16 := by
    rw [Nat.shiftLeft_eq]
    omega
  rw [BitVec.toNat_shiftLeft, BitVec.toNat_setWidth_of_le (by decide), BitVec.toNat_and]
  exact Nat.mod_eq_of_lt hfits

theorem toNat_normalHouseCode (b1 : Byte) : (normalHouseCode b1).toNat = b1.toNat &&& 0xF0 := BitVec.toNat_and ..

theorem toNat_normalCmdCode (p : Profile) (b3 : Byte) :
    (normalCmdCode p b3).toNat = b3.toNat &&& p.offCode.toNat := by
  rw [normalCmdCode, BitVec.toNat_and, BitVec.toNat_setWidth_of_le (by decide)]

theorem normalUnitCode_eq (p : Profile) (b1 b3 : Byte) :
    normalUnitCode p b1 b3 = BitVec.ofNat 16
      (((b1.toNat &&& 0x0F) <<< 8) ||| (b3.toNat - (b3.toNat &&& p.offCode.toNat))) := by
  have hnat : (normalUnitCode p b1 b3).toNat =
      ((b1.toNat &&& 0x0F) <<< 8) ||| (b3.toNat - (b3.toNat &&& p.offCode.toNat)) := by
    rw [normalUnitCode, BitVec.toNat_or, toNat_lowNibble_shift, toNat_clr, BitVec.toNat_setWidth_of_le (by decide)]
  rw [← hnat, BitVec.ofNat_toNat, BitVec.setWidth_eq]

theorem toNat_panTiltCmdCode (b1 b2 : Byte) :
    (panTiltCmdCode b1 b2).toNat = ((b1.toNat &&& 0x0F) <<< 8) ||| b2.toNat := by
  rw [panTiltCmdCode, BitVec.toNat_or, toNat_lowNibble_shift, BitVec.toNat_setWidth_of_le (by decide)]

/-- The command code of a normal frame is one of the low byte (R64). -/
theorem isPanTiltCode_normalCmdCode (p : Profile) (b3 : Byte) : isPanTiltCode (normalCmdCode p b3) = false := by
  have hzero : clr (normalCmdCode p b3) Config.panTiltMask = 0 := by
    ext i hi
    interval_cases i <;> simp [clr, normalCmdCode, Config.panTiltMask]
  simp [isPanTiltCode, hzero]

/-! ### The decoder's dispatch -/

theorem decode_normalFrame (p : Profile) (b1 b2 b3 b4 : Byte) :
    decode p [0x20, b1, b2, b3, b4] = decodeNormal p b1 b3 := rfl

theorem decode_panTiltFrame (p : Profile) (b1 b2 b3 : Byte) :
    decode p [0x14, b1, b2, b3] = decodePanTilt p b1 b2 b3 := rfl

theorem decode_normal_short (p : Profile) {g : Frame} (h : g.length < 4) :
    decode p (0x20 :: g) = .ignored .shortFrame :=
  match g, h with
  | [], _ | [_], _ | [_, _], _ | [_, _, _], _ => rfl

theorem decode_panTilt_short (p : Profile) {g : Frame} (h : g.length < 3) :
    decode p (0x14 :: g) = .ignored .shortFrame :=
  match g, h with
  | [], _ | [_], _ | [_, _], _ => rfl

/-- A first byte that is neither 0x20 nor 0x14 (R65). -/
theorem decode_unknownPrefix (p : Profile) {b0 : Byte} {g : Frame} (hn : b0 ≠ 0x20) (hp : b0 ≠ 0x14)
    (hlen : g.length ≤ 4) : decode p (b0 :: g) = .ignored .unknownPrefix := by
  have hfits : ¬ (b0 :: g).length > Config.maxFrameLen := Nat.not_lt.2 (Nat.succ_le_succ hlen)
  simp only [decode, if_neg hfits]
  exact (if_neg hn).trans (if_neg hp)

/-- A frame of first byte 0x20 that decodes does so by `decodeNormal` (R89). -/
theorem decodeNormal_of_decode {p : Profile} {g : Frame} {i : Instr} (h : decode p (0x20 :: g) = .decoded i) :
    ∃ b1 b3, decodeNormal p b1 b3 = .decoded i := by
  rcases Nat.lt_trichotomy g.length 4 with hshort | hlen | hlong
  · rw [decode_normal_short p hshort] at h
    cases h
  · match g, hlen with
    | [b1, b2, b3, b4], _ => exact ⟨b1, b3, h⟩
  · rw [Machine.decode_tooLong p (f := 0x20 :: g) (Nat.succ_lt_succ hlong)] at h
    cases h

/-- A normal frame's command code is of a normal kind (R64, A4). -/
theorem isPanTilt_of_decodeNormal {p : Profile} (hp : p.Admissible) {b1 b3 : Byte} {i : Instr}
    (h : decodeNormal p b1 b3 = .decoded i) : i.command.kind.isPanTilt = false := by
  obtain ⟨l, n, k, -, -, hk, rfl⟩ := hp.lookupCommand_decoded_iff.1 h
  rw [Command.instr_command, ← hp.isPanTiltCode_cmd, hk, isPanTiltCode_normalCmdCode]

theorem unitInRange_of_oneToSixteen (k : Kind) {u : Nat} (h1 : 1 ≤ u) (h16 : u ≤ 16) : unitInRange k u = true := by
  cases k <;> simp [unitInRange, h1, h16]

/-! ### The obligations -/

/-- Settles O13: the three lookups, with the fields read as natural numbers. -/
theorem normalFramesDecodeByTheirFields : Obligations.NormalFramesDecodeByTheirFields := by
  intro p b1 b2 b3 b4 hp unitCode
  have hunit : unitCode = normalUnitCode p b1 b3 := (normalUnitCode_eq p b1 b3).symm
  simp only [decode_normalFrame, decodeNormal, hunit, ← toNat_normalHouseCode, ← toNat_normalCmdCode,
    BitVec.toNat_inj, ne_eq]
  exact ⟨fun i => hp.lookupCommand_decoded_iff, lookupCommand_unrecognized_iff⟩

/-- Settles O14: the three lookups, with the command code read as a natural number. -/
theorem panTiltFramesDecodeByTheirFields : Obligations.PanTiltFramesDecodeByTheirFields := by
  intro p b1 b2 b3 b4 hp
  simp only [decode_panTiltFrame, decodePanTilt, ← toNat_panTiltCmdCode, BitVec.toNat_inj, ne_eq]
  exact ⟨fun i => hp.lookupCommand_decoded_iff, lookupCommand_unrecognized_iff, rfl⟩

/-- Settles O16: a decoded unit is a table entry's number, and the kind's code is one a low byte can hold. -/
theorem decodedCommandsAreValid : Obligations.DecodedCommandsAreValid := by
  intro p f i h
  obtain ⟨h1, h16⟩ := decode_unit_range h
  refine ⟨h1, h16, unitInRange_of_oneToSixteen _ h1 h16, fun hp hfirst => ?_⟩
  obtain ⟨g, rfl⟩ : ∃ g, f = 0x20 :: g := List.head?_eq_some_iff.1 (List.head?_eq_getElem?.trans hfirst)
  obtain ⟨b1, b3, hnormal⟩ := decodeNormal_of_decode h
  exact isPanTilt_of_decodeNormal hp hnormal

end Sys2Proof

namespace Sys2Proof.Machine

variable {s : State} {f : Frame}

theorem inbound_ignored {why : IgnoreReason} (h : decode s.params.profile f = .ignored why) :
    inbound (.data f) s = .next (s.finishInbound (.ignored why)) := by
  simp [inbound, h]

theorem inbound_unrecognized (h : decode s.params.profile f = .unrecognizedCode) :
    inbound (.data f) s = .next (s.finishInbound .unrecognizedCode) := by
  simp [inbound, h]

/-- Settles O46: such a frame is ignored for its first byte, and INBOUND records that alone. -/
theorem unknownPrefixesAreSilentlyIgnored : Obligations.UnknownPrefixesAreSilentlyIgnored := by
  intro s b0 g hn hp hlen
  have hignored := decode_unknownPrefix s.params.profile hn hp hlen
  exact ⟨hignored, inbound_ignored hignored⟩

/-- Settles O47, each clause from the decoder's answer. -/
theorem shortFramesAndUnrecognizedCodesAreDropped : Obligations.ShortFramesAndUnrecognizedCodesAreDropped :=
  fun s _ => ⟨fun h => inbound_ignored (decode_normal_short s.params.profile h),
    fun h => inbound_ignored (decode_panTilt_short s.params.profile h), rfl, rfl, inbound_unrecognized⟩

end Sys2Proof.Machine
end

section
/-! The canonical text of a Command parses back to it (30_encoding.md R62, 43_line_parser.md R100). -/

namespace Sys2Proof

theorem symbolToKind_kindToSymbol (k : Kind) : symbolToKind (kindToSymbol k) = some k := by
  cases k <;> decide

theorem letterFromChar_houseChar (l : House) : letterFromChar (houseChar l) = some l := by
  revert l
  decide

/-- A line of a symbol, a house letter and at most three more characters is decided by the checks on those (R100). -/
theorem parse_symbol_house (k : Kind) (l : House) {ds : Text} (h : ds.length ≤ 3) :
    parse (kindToSymbol k :: houseChar l :: ds) = parseUnit k l ds := by
  have hfits : ¬ (kindToSymbol k :: houseChar l :: ds).length > Config.maxTextLen :=
    Nat.not_lt.2 (Nat.add_le_add_right h 2)
  simp only [parse, if_neg hfits, symbolToKind_kindToSymbol, letterFromChar_houseChar]

/-- The digits of a unit up to 16 fit on a line and are read as that unit again (R108). -/
theorem toDigits_unit : ∀ u ≤ 16, (Nat.toDigits 10 u).length ≤ 3 ∧ (Nat.toDigits 10 u).all isAsciiDigit = true ∧
    Nat.toDigits 10 u ≠ [] ∧ unitValue (Nat.toDigits 10 u) = u := by decide

theorem parseUnit_toDigits {k : Kind} (l : House) {u : Nat} (hu : u ≤ 16) (hr : unitInRange k u = true) :
    parseUnit k l (Nat.toDigits 10 u) = .ok ⟨k, l, u⟩ := by
  obtain ⟨-, hdigits, hne, hvalue⟩ := toDigits_unit u hu
  simp [parseUnit, hdigits, hne, hvalue, hr]

/-- A pan/tilt line without digits is accepted, with unit 0 (R107). -/
theorem parseUnit_nil_panTilt {k : Kind} (l : House) (hk : k.isPanTilt = true) : parseUnit k l [] = .ok ⟨k, l, 0⟩ := by
  cases k with
  | on | off | dim | bright => cases hk
  | up | down | left | right => rfl

theorem unit_le_of_unitInRange {k : Kind} {u : Nat} (hk : k.isPanTilt = false) (h : unitInRange k u = true) :
    u ≤ 16 := by
  cases k with
  | on | off | dim | bright => simp only [unitInRange, Bool.and_eq_true, decide_eq_true_eq] at h; omega
  | up | down | left | right => cases hk

/-- Settles O23: a normal Command's digits are its unit's, and a pan/tilt Command has none. -/
theorem parseOfFormatIsTheCommand : Obligations.ParseOfFormatIsTheCommand := by
  rintro p ⟨k, l, u⟩ hp (hr : unitInRange k u = true)
  have hcode : isPanTiltCode (p.cmd k) = k.isPanTilt := hp.isPanTiltCode_cmd k
  cases hk : k.isPanTilt with
  | true =>
    refine ⟨⟨k, l, 0⟩, ?_, by simp [Command.same, hk]⟩
    rw [format, if_pos (hcode.trans hk), parse_symbol_house k l (by simp), parseUnit_nil_panTilt l hk]
  | false =>
    have hu := unit_le_of_unitInRange hk hr
    refine ⟨⟨k, l, u⟩, ?_, by simp [Command.same]⟩
    rw [format, if_neg (by simp [hcode, hk]), parse_symbol_house k l (toDigits_unit u hu).1,
      parseUnit_toDigits l hu hr]

end Sys2Proof
end

section
/-! The lookups of the code tables (40_code_tables.md R70 to R80): what each reverse lookup answers, the classification of a
command code on natural numbers, and the house letters by their ASCII numbers. -/

namespace Sys2Proof

/-- The house lookup answers only a letter whose code it was given (R71). -/
theorem house_of_codeToHouse {p : Profile} {c : Byte} {l : House} (h : p.codeToHouse c = some l) : p.house l = c := by
  simpa using List.find?_some h

/-- The symbols and the kinds correspond one to one (R79). -/
theorem symbolToKind_eq_some_iff {ch : Char} {k : Kind} : symbolToKind ch = some k ↔ ch = kindToSymbol k := by
  constructor
  · intro h
    have hsymbol : kindToSymbol k = ch := by simpa using List.find?_some h
    exact hsymbol.symm
  · rintro rfl
    exact symbolToKind_kindToSymbol k

/-- Clearing the low byte takes the remainder modulo 256 away, so something is left exactly above 0xFF (R76). -/
theorem isPanTiltCode_iff (c : Code) : isPanTiltCode c = true ↔ 0xFF < c.toNat := by
  have hlow : c.toNat &&& Config.panTiltMask.toNat = c.toNat % 256 := Nat.and_two_pow_sub_one_eq_mod _ 8
  rw [isPanTiltCode, bne_iff_ne, ne_eq, ← BitVec.toNat_inj, toNat_clr, hlow]
  change ¬ c.toNat - c.toNat % 256 = 0 ↔ _
  omega

theorem Kind.isPanTilt_iff (k : Kind) : k.isPanTilt = true ↔ k = .up ∨ k = .down ∨ k = .left ∨ k = .right := by
  cases k <;> decide

/-! ### House letters -/

theorem eq_ofNat_iff_toNat_eq {ch : Char} {n : Nat} (hn : n.isValidChar) : ch = Char.ofNat n ↔ ch.toNat = n := by
  constructor
  · rintro rfl
    exact (Char.toNat_ofNat n).trans (if_pos hn)
  · rintro rfl
    exact (Char.ofNat_toNat ch).symm

/-- A house letter's two characters, by their ASCII numbers. -/
theorem eq_houseChar_or_upper_iff {ch : Char} {l : House} :
    ch = houseChar l ∨ ch = houseCharUpper l ↔ ch.toNat = 97 + l.val ∨ ch.toNat = 65 + l.val :=
  or_congr (eq_ofNat_iff_toNat_eq (.inl (by omega))) (eq_ofNat_iff_toNat_eq (.inl (by omega)))

/-- The two ranges do not meet, so a character is of one letter at most (R80). -/
theorem letterFromChar_eq_some_iff {ch : Char} {l : House} :
    letterFromChar ch = some l ↔ ch.toNat = 97 + l.val ∨ ch.toNat = 65 + l.val := by
  constructor
  · intro h
    simpa [eq_houseChar_or_upper_iff] using List.find?_some h
  · intro h
    refine find?_eq_some_of_unique (List.mem_finRange l) (by simpa [eq_houseChar_or_upper_iff] using h) fun m hm => ?_
    have hm : ch.toNat = 97 + m.val ∨ ch.toNat = 65 + m.val := by simpa [eq_houseChar_or_upper_iff] using hm
    exact Fin.ext (by omega)

theorem letterFromChar_eq_none_iff {ch : Char} : letterFromChar ch = none ↔
    ¬ (97 ≤ ch.toNat ∧ ch.toNat ≤ 112) ∧ ¬ (65 ≤ ch.toNat ∧ ch.toNat ≤ 80) := by
  simp only [Option.eq_none_iff_forall_ne_some, ne_eq, letterFromChar_eq_some_iff]
  constructor
  · intro h
    refine ⟨fun hlower => ?_, fun hupper => ?_⟩
    · exact h ⟨ch.toNat - 97, by omega⟩ (.inl (by simp only; omega))
    · exact h ⟨ch.toNat - 65, by omega⟩ (.inr (by simp only; omega))
  · intro h l
    omega

/-- The house letter is checked before the characters after it (R100, R105). -/
theorem parse_invalidHouseLetter (k : Kind) {ch : Char} {ds : Text} (hlen : ds.length ≤ 3)
    (hch : letterFromChar ch = none) : parse (kindToSymbol k :: ch :: ds) = .err .invalidHouseLetter := by
  have hfits : ¬ (kindToSymbol k :: ch :: ds).length > Config.maxTextLen := Nat.not_lt.2 (Nat.add_le_add_right hlen 2)
  simp only [parse, if_neg hfits, symbolToKind_kindToSymbol, hch]

/-! ### The obligations -/

/-- Settles O1: A1 makes each code find its own entry first, and an answer is always an entry that matched. -/
theorem reverseLookupsInvertForwardMaps : Obligations.ReverseLookupsInvertForwardMaps :=
  ⟨fun _ hp => ⟨hp.codeToHouse_house, hp.codeToKind_cmd⟩,
    fun _ _ => ⟨fun _ => house_of_codeToHouse, codeToHouse_eq_none_iff⟩,
    fun _ _ => ⟨fun _ => cmd_of_codeToKind, codeToKind_eq_none_iff⟩,
    fun _ _ => symbolToKind_eq_some_iff⟩

/-- Settles O2: the mask on natural numbers, and A4 for the kinds. -/
theorem panTiltCodesAreThoseAboveTheLowByte : Obligations.PanTiltCodesAreThoseAboveTheLowByte := by
  refine ⟨isPanTiltCode_iff, fun p hp k => ?_, by decide, by decide⟩
  rw [hp.isPanTiltCode_cmd, Kind.isPanTilt_iff]

/-- Settles O3: the letters by their ASCII numbers, and the place of the house check in the parser. -/
theorem houseLettersAreReadInEitherCase : Obligations.HouseLettersAreReadInEitherCase :=
  ⟨fun _ _ => letterFromChar_eq_some_iff, fun _ => letterFromChar_eq_none_iff,
    fun k _ _ => parse_invalidHouseLetter k⟩

end Sys2Proof
end

section
/-! The encoder and the text renderer seen from outside (41_encoder.md R83 to R88): the round trip through the decoder,
which Commands share a canonical text, and which units ENCODE rejects. -/

namespace Sys2Proof

theorem Command.same_iff {c d : Command} :
    c.same d = true ↔ c.kind = d.kind ∧ c.house = d.house ∧ (c.kind.isPanTilt = true ∨ c.unit = d.unit) := by
  simp [Command.same, and_assoc]

/-! ### The round trip -/

theorem exists_unitNumber_eq {u : Nat} (h1 : 1 ≤ u) (h16 : u ≤ 16) : ∃ n : UnitEntry, unitNumber n = u :=
  ⟨⟨u - 1, by omega⟩, Nat.sub_add_cancel h1⟩

/-- R88 for a valid Command, from the two families' round trips. -/
theorem decode_encode_same {q : Params} {c : Command} (hq : q.profile.Conforming) (hwf : c.wellFormed = true)
    (hunit : c.kind.isPanTilt = false → 1 ≤ c.unit) :
    ∃ f j, encode q c = .ok f ∧ decode q.profile f = .decoded j ∧ c.same j.command = true := by
  obtain ⟨k, l, u⟩ := c
  obtain ⟨hp, hRT1, hRTunit, hRT4, hRT6, hRT7⟩ := hq
  cases hk : k.isPanTilt with
  | true =>
    obtain ⟨-, -, h5⟩ := hRTunit 0
    obtain ⟨f, henc, hdec⟩ :=
      decode_encode_panTilt hp hk h5 (hRT6 k k.mem_all hk) (hRT7 l k k.mem_all hk) u
    exact ⟨f, _, henc, hdec, by simp [Command.same_iff, hk]⟩
  | false =>
    obtain ⟨n, rfl⟩ := exists_unitNumber_eq (hunit hk) (unit_le_of_unitInRange hk hwf)
    obtain ⟨h2, h3, h5⟩ := hRTunit n
    obtain ⟨f, henc, hdec⟩ := decode_encode_normal hp hk (hRT1 l) h2 h3 (hRT4 k k.mem_all hk) h5
    exact ⟨f, _, henc, hdec, by simp [Command.same_iff]⟩

/-- Settles O10, by the round trip of each family. -/
theorem decodeOfEncodeIsTheCommand : Obligations.DecodeOfEncodeIsTheCommand :=
  fun _ _ hq hwf hunit => decode_encode_same hq hwf hunit

/-! ### Canonical texts -/

theorem kindToSymbol_injective : Function.Injective kindToSymbol := fun k j h =>
  Option.some.inj (by rw [← symbolToKind_kindToSymbol k, h, symbolToKind_kindToSymbol])

theorem houseChar_injective : Function.Injective houseChar := fun l m h =>
  Option.some.inj (by rw [← letterFromChar_houseChar l, h, letterFromChar_houseChar])

theorem toDigits_unit_eq_iff {u v : Nat} (hu : u ≤ 16) (hv : v ≤ 16) :
    Nat.toDigits 10 u = Nat.toDigits 10 v ↔ u = v := by
  obtain ⟨-, -, -, hvalue_u⟩ := toDigits_unit u hu
  obtain ⟨-, -, -, hvalue_v⟩ := toDigits_unit v hv
  exact ⟨fun h => by rw [← hvalue_u, h, hvalue_v], congrArg _⟩

theorem length_toDigits_unit : ∀ u ≤ 16, (Nat.toDigits 10 u).length ≤ 2 := by decide

/-- Under A4 a canonical text has digits exactly for a normal kind (R62, R87). -/
theorem format_eq {p : Profile} (hp : p.Admissible) (c : Command) :
    format p c = kindToSymbol c.kind :: houseChar c.house ::
      (if c.kind.isPanTilt then [] else Nat.toDigits 10 c.unit) := by
  rw [format, hp.isPanTiltCode_cmd]

theorem format_eq_format_iff {p : Profile} {c d : Command} (hp : p.Admissible) (hc : c.unit ≤ 16) (hd : d.unit ≤ 16) :
    format p c = format p d ↔ c.same d = true := by
  rw [format_eq hp, format_eq hp, Command.same_iff, List.cons.injEq, List.cons.injEq,
    kindToSymbol_injective.eq_iff, houseChar_injective.eq_iff]
  refine and_congr_right fun hkind => and_congr_right fun _ => ?_
  rw [← hkind]
  cases c.kind.isPanTilt with
  | true => simp
  | false => simpa using toDigits_unit_eq_iff hc hd

theorem length_format_le {p : Profile} {c : Command} (hp : p.Admissible) (hc : c.unit ≤ 16) :
    (format p c).length ≤ 4 := by
  rw [format_eq hp]
  cases c.kind.isPanTilt with
  | true => simp
  | false => exact Nat.add_le_add_right (length_toDigits_unit c.unit hc) 2

/-- Settles O24: symbol, house character and digits each determine what they stand for. -/
theorem canonicalTextsTellCommandsApart : Obligations.CanonicalTextsTellCommandsApart :=
  fun _ _ _ hp hc hd => ⟨format_eq_format_iff hp hc hd, Nat.le_add_left 2 _, length_format_le hp hc⟩

/-! ### The units ENCODE rejects -/

theorem encode_invalidUnit_iff {q : Params} (hp : q.profile.Admissible) (c : Command) :
    encode q c = .err .invalidUnit ↔ c.wellFormed = false := by
  obtain ⟨-, -, hinvalid⟩ := frameShapeFollowsTheFamily q c hp
  exact hinvalid.symm

theorem exists_encode_ok {q : Params} {c : Command} (hp : q.profile.Admissible) (hwf : c.wellFormed = true) :
    ∃ f, encode q c = .ok f := by
  cases henc : encode q c with
  | ok f => exact ⟨f, rfl⟩
  | err e =>
    obtain rfl := encode_err henc
    exact absurd hwf (by simp [(encode_invalidUnit_iff hp c).1 henc])

/-- Settles O25: the parser's last check is the range ENCODE accepts. -/
theorem parsedCommandsAlwaysEncode : Obligations.ParsedCommandsAlwaysEncode := fun _ _ _ hp h =>
  ⟨parse_ok_wellFormed h, exists_encode_ok hp (parse_ok_wellFormed h)⟩

end Sys2Proof

namespace Sys2Proof.Machine

variable {s : State} {i : Instr}

theorem rejectsUnit_of_not_wellFormed (hp : s.params.profile.Admissible) (ha : s.agent = .outbound)
    (hwf : i.wellFormed = false) : RejectsUnit i s := by
  have henc : encode s.params i.command = .err .invalidUnit := (encode_invalidUnit_iff hp _).2 hwf
  have hsend : sendCommand i.command s = s.reject .invalidUnit := by simp [sendCommand, henc]
  rw [RejectsUnit, exec_eq_runCommand, runCommand_outbound _ ha, hsend]
  rfl

theorem rejectsUnit_of_unit_gt (hp : s.params.profile.Admissible) (ha : s.agent = .outbound)
    (hk : i.command.kind.isPanTilt = false) (hu : 16 < i.command.unit) : RejectsUnit i s :=
  rejectsUnit_of_not_wellFormed hp ha
    (Bool.eq_false_iff.2 fun hwf => Nat.not_le.2 hu (unit_le_of_unitInRange hk hwf))

/-- Settles O30: such a unit makes the Command invalid, which ENCODE rejects. -/
theorem unitsOutOfRangeAreReported : Obligations.UnitsOutOfRangeAreReported := by
  intro s h u hp ha
  constructor
  · rintro (rfl | hu)
    · exact ⟨rejectsUnit_of_not_wellFormed hp ha rfl, rejectsUnit_of_not_wellFormed hp ha rfl⟩
    · exact ⟨rejectsUnit_of_unit_gt hp ha rfl hu, rejectsUnit_of_unit_gt hp ha rfl hu⟩
  · exact fun hu => ⟨rejectsUnit_of_unit_gt hp ha rfl hu, rejectsUnit_of_unit_gt hp ha rfl hu⟩

end Sys2Proof.Machine
end

section
/-! What the decoder leaves unread in a normal frame (42_decoder.md R96). -/

namespace Sys2Proof

/-- Settles O15: a normal frame decodes by bytes 1 and 3 alone, and both example frames hold 0x60 and 0x00 there. -/
theorem complementBytesAreNotChecked : Obligations.ComplementBytesAreNotChecked := by
  have hexample : decodeNormal Profile.ref 0x60 0x00 = .decoded (.on 0 1) := by decide
  refine ⟨fun p b1 b3 x2 x4 y2 y4 => ?_, ?_, ?_⟩
  · rw [decode_normalFrame, decode_normalFrame]
  · rw [decode_normalFrame, hexample]
  · rw [decode_normalFrame, hexample]

end Sys2Proof
end

section
/-! The line parser (43_line_parser.md R100 to R111): what each of its checks answers, and from that which lines each
error names. -/

namespace Sys2Proof

/-! ### The checks of `parse` -/

theorem parse_tooLong {line : Text} (h : 5 < line.length) : parse line = .err .tooLong := by
  match line, h with
  | _ :: _ :: _, h => exact if_pos h

theorem parse_tooLong_of_rest {c0 c1 : Char} {ds : Text} (h : 3 < ds.length) :
    parse (c0 :: c1 :: ds) = .err .tooLong :=
  parse_tooLong (Nat.add_lt_add_right h 2)

/-- The symbol is checked before the house letter (R100, R104). -/
theorem parse_invalidCommandSymbol {c0 c1 : Char} {ds : Text} (hlen : ds.length ≤ 3) (h0 : symbolToKind c0 = none) :
    parse (c0 :: c1 :: ds) = .err .invalidCommandSymbol := by
  have hfits : ¬ (c0 :: c1 :: ds).length > Config.maxTextLen := Nat.not_lt.2 (Nat.add_le_add_right hlen 2)
  simp only [parse, if_neg hfits, h0]

/-- `parse_symbol_house` for a house letter in either case. -/
theorem parse_symbol_letter (k : Kind) {c1 : Char} {l : House} {ds : Text} (hlen : ds.length ≤ 3)
    (h1 : letterFromChar c1 = some l) : parse (kindToSymbol k :: c1 :: ds) = parseUnit k l ds := by
  have hfits : ¬ (kindToSymbol k :: c1 :: ds).length > Config.maxTextLen := Nat.not_lt.2 (Nat.add_le_add_right hlen 2)
  simp only [parse, if_neg hfits, symbolToKind_kindToSymbol, h1]

/-- What decides a line of 2 to 5 characters: its symbol, its house letter, or the characters after them. -/
theorem parse_cases (c0 c1 : Char) {ds : Text} (hlen : ds.length ≤ 3) :
    (symbolToKind c0 = none ∧ parse (c0 :: c1 :: ds) = .err .invalidCommandSymbol) ∨
    ∃ k, c0 = kindToSymbol k ∧
      ((letterFromChar c1 = none ∧ parse (c0 :: c1 :: ds) = .err .invalidHouseLetter) ∨
      ∃ l, letterFromChar c1 = some l ∧ parse (c0 :: c1 :: ds) = parseUnit k l ds) := by
  cases h0 : symbolToKind c0 with
  | none => exact .inl ⟨rfl, parse_invalidCommandSymbol hlen h0⟩
  | some k =>
    obtain rfl := symbolToKind_eq_some_iff.1 h0
    refine .inr ⟨k, rfl, ?_⟩
    cases h1 : letterFromChar c1 with
    | none => exact .inl ⟨rfl, parse_invalidHouseLetter k hlen h1⟩
    | some l => exact .inr ⟨l, rfl, parse_symbol_letter k hlen h1⟩

/-- The errors of the unit's checks (R106, R107, R109). -/
theorem parseUnit_err {k : Kind} {l : House} {ds : Text} {e : ValidationError} (h : parseUnit k l ds = .err e) :
    e = .invalidDigit ∨ (e = .missingUnit ∧ ds = []) ∨ e = .invalidUnit := by
  unfold parseUnit at h
  split_ifs at h with _ hmissing
  · cases h
    exact .inl rfl
  · cases h
    exact .inr (.inl ⟨rfl, hmissing.1⟩)
  · cases h
    exact .inr (.inr rfl)

/-! ### Lines too long -/

theorem parse_length_five_ne_tooLong {line : Text} (h : line.length = 5) : parse line ≠ .err .tooLong := by
  match line, h with
  | c0 :: c1 :: ds, h =>
    have hlen : ds.length = 3 := by simpa using h
    intro herr
    rcases parse_cases c0 c1 hlen.le with ⟨-, e⟩ | ⟨k, -, ⟨-, e⟩ | ⟨l, -, e⟩⟩ <;> rw [e] at herr
    · cases herr
    · cases herr
    · simpa using parseUnit_err herr

/-- Settles O17: the length is checked before the characters, and none of their checks answers TooLong. -/
theorem linesOverFiveCharactersAreTooLong : Obligations.LinesOverFiveCharactersAreTooLong :=
  ⟨fun _ => parse_tooLong, fun _ => parse_length_five_ne_tooLong, parse_tooLong (by decide)⟩

/-! ### Symbols -/

/-- The eight symbols written out (30_encoding.md R61). -/
theorem mem_symbols_iff {ch : Char} :
    ch ∈ ['+', '-', 'u', 'd', 'l', 'r', 'b', 's'] ↔ ∃ k, ch = kindToSymbol k := by
  constructor
  · intro h
    simp only [List.mem_cons, List.not_mem_nil, or_false] at h
    rcases h with rfl | rfl | rfl | rfl | rfl | rfl | rfl | rfl
    exacts [⟨.on, rfl⟩, ⟨.off, rfl⟩, ⟨.up, rfl⟩, ⟨.down, rfl⟩, ⟨.left, rfl⟩, ⟨.right, rfl⟩, ⟨.bright, rfl⟩, ⟨.dim, rfl⟩]
  · rintro ⟨k, rfl⟩
    cases k <;> decide

theorem symbolToKind_eq_none_iff {ch : Char} :
    symbolToKind ch = none ↔ ch ∉ ['+', '-', 'u', 'd', 'l', 'r', 'b', 's'] := by
  rw [mem_symbols_iff, not_exists, Option.eq_none_iff_forall_ne_some]
  exact forall_congr' fun k => not_congr symbolToKind_eq_some_iff

theorem parse_invalidCommandSymbol_iff {c0 c1 : Char} {ds : Text} (hlen : ds.length ≤ 3) :
    parse (c0 :: c1 :: ds) = .err .invalidCommandSymbol ↔ symbolToKind c0 = none := by
  refine ⟨fun herr => ?_, parse_invalidCommandSymbol hlen⟩
  rcases parse_cases c0 c1 hlen with ⟨h0, -⟩ | ⟨k, -, ⟨-, e⟩ | ⟨l, -, e⟩⟩
  · exact h0
  · rw [e] at herr
    cases herr
  · rw [e] at herr
    simpa using parseUnit_err herr

/-- Settles O18: a kind's symbol is one of the eight, and no later check answers InvalidCommandSymbol. -/
theorem unknownSymbolsAreRejected : Obligations.UnknownSymbolsAreRejected := by
  refine ⟨fun c0 rest hmin hmax => ?_, by decide, by decide⟩
  match rest, hmin with
  | c1 :: ds, _ => rw [parse_invalidCommandSymbol_iff (Nat.le_of_succ_le_succ hmax), symbolToKind_eq_none_iff]

/-! ### House letters -/

theorem parse_invalidHouseLetter_iff (k : Kind) {c1 : Char} {ds : Text} (hlen : ds.length ≤ 3) :
    parse (kindToSymbol k :: c1 :: ds) = .err .invalidHouseLetter ↔ letterFromChar c1 = none := by
  refine ⟨fun herr => ?_, parse_invalidHouseLetter k hlen⟩
  cases h1 : letterFromChar c1 with
  | none => rfl
  | some l =>
    rw [parse_symbol_letter k hlen h1] at herr
    simpa using parseUnit_err herr

theorem letterFromChar_houseCharUpper (l : House) : letterFromChar (houseCharUpper l) = some l := by
  revert l
  decide

theorem parse_houseCharUpper (k : Kind) (l : House) (ds : Text) :
    parse (kindToSymbol k :: houseCharUpper l :: ds) = parse (kindToSymbol k :: houseChar l :: ds) := by
  rcases le_or_gt ds.length 3 with hlen | hlen
  · rw [parse_symbol_letter k hlen (letterFromChar_houseCharUpper l), parse_symbol_house k l hlen]
  · rw [parse_tooLong_of_rest hlen, parse_tooLong_of_rest hlen]

/-- Settles O19: the house check by ASCII numbers, and the letter it reads in either case. -/
theorem unknownHouseLettersAreRejected : Obligations.UnknownHouseLettersAreRejected :=
  ⟨fun k _ _ hlen => (parse_invalidHouseLetter_iff k hlen).trans letterFromChar_eq_none_iff, parse_houseCharUpper,
    by decide, by decide⟩

/-! ### A missing unit -/

/-- With nothing after the house letter, the unit is missing for a kind that needs one, and 0 otherwise (R107). -/
theorem parse_noDigits (k : Kind) (l : House) :
    parse [kindToSymbol k, houseChar l] = if needsUnit k then .err .missingUnit else .ok ⟨k, l, 0⟩ := by
  rw [parse_symbol_house k l (ds := []) (Nat.zero_le 3)]
  cases k <;> rfl

theorem parse_digits_ne_missingUnit (k : Kind) (l : House) (d : Char) (ds : Text) :
    parse (kindToSymbol k :: houseChar l :: d :: ds) ≠ .err .missingUnit := by
  intro herr
  rcases le_or_gt (d :: ds).length 3 with hlen | hlen
  · rw [parse_symbol_house k l hlen] at herr
    simpa using parseUnit_err herr
  · rw [parse_tooLong_of_rest hlen] at herr
    cases herr

theorem needsUnit_eq_false {k : Kind} (hon : k ≠ .on) (hoff : k ≠ .off) : needsUnit k = false := by
  cases k with
  | on => exact absurd rfl hon
  | off => exact absurd rfl hoff
  | dim | bright | up | down | left | right => rfl

/-- Settles O21: MissingUnit is the answer to no characters after the house letter alone, and only for ON and OFF. -/
theorem missingUnitIsForOnAndOffOnly : Obligations.MissingUnitIsForOnAndOffOnly :=
  ⟨fun l => ⟨parse_noDigits .on l, parse_noDigits .off l⟩,
    fun k l hon hoff => (parse_noDigits k l).trans (by rw [needsUnit_eq_false hon hoff]; rfl),
    parse_digits_ne_missingUnit⟩

end Sys2Proof
end

section
/-! A turn of the outbound agent that finds a line or the end of the stream (43_line_parser.md R113, R101). -/

namespace Sys2Proof.Machine

variable {s : State} {rest : List Turn} {ls : List LineInput} {line : Text} {a : WriteAnswer}

theorem step_outbound (hu : Usable s) (hrun : s.outboundRunning = true) (hs : s.schedule = .outbound :: rest) :
    step s = outboundTurn (s.takeTurn rest) := by
  rw [step_turn hu.1 hu.2 hs]
  exact takeTurn_outbound (s := s.takeTurn rest) (.inl hrun)

theorem step_line (hu : Usable s) (hrun : s.outboundRunning = true) (hs : s.schedule = .outbound :: rest)
    (hl : s.lines = .line line a :: ls) : step s = handleLine line ((s.takeTurn rest).beginLine ls a) := by
  simp [step_outbound hu hrun hs, outboundTurn, State.takeTurn, hrun, hl]

theorem step_endOfStream (hu : Usable s) (hrun : s.outboundRunning = true) (hs : s.schedule = .outbound :: rest)
    (hl : s.lines = .endOfStream :: ls) :
    step s = .next ((s.takeTurn rest).beginLine ls s.writeAnswer).endLines := by
  simp [step_outbound hu hrun hs, outboundTurn, State.takeTurn, hrun, hl]

theorem handleLine_ok {c : Command} (h : parse line = .ok c) : handleLine line s = exec c.instr s := by
  simp [handleLine, h]

theorem handleLine_err {e : ValidationError} (h : parse line = .err e) : handleLine line s = .next (s.reject e) := by
  simp [handleLine, h]

/-- A Command whose frame the transport accepts. -/
theorem exec_writes {c : Command} {f : Frame} (ha : s.agent = .outbound) (hw : s.writeAnswer = .accepted)
    (henc : encode s.params c = .ok f) : exec c.instr s = .next (s.writeFrame f) := by
  have hsend : sendCommand c s = s.writeFrame f := by simp [sendCommand, henc, State.frameOut, hw]
  rw [exec_eq_runCommand, Command.instr_command, runCommand_outbound _ ha, hsend]

/-- Settles O44: the outbound agent's turn is `handleLine`, which runs the Command of its line. -/
theorem stepRunsTheParsedLine : Obligations.StepRunsTheParsedLine := by
  intro s rest ls line a c hu hrun hs hl hparse
  rw [step_line hu hrun hs hl, handleLine_ok hparse]
  rfl

/-- Settles O45: `handleLine` for each answer of the parser; a parsed Command is valid, so ENCODE gives its frame. -/
theorem outboundAgentHandlesEachLine : Obligations.OutboundAgentHandlesEachLine := by
  intro s rest ls a hu hrun hs s'
  refine ⟨fun line c hl hparse hw => ?_, rfl, fun hl => ?_, fun line e hl hparse => ?_, fun hl => ?_⟩
  · obtain ⟨f, henc⟩ := exists_encode_ok hu.1 (parse_ok_wellFormed hparse)
    refine ⟨f, henc, ?_⟩
    rw [step_line hu hrun hs hl, handleLine_ok hparse]
    exact exec_writes rfl hw henc
  · rw [step_line hu hrun hs hl]
    rfl
  · rw [step_line hu hrun hs hl, handleLine_err hparse]
    rfl
  · rw [step_endOfStream hu hrun hs hl]
    rfl

end Sys2Proof.Machine
end

section
/-! The model's one fault (log 11). -/

namespace Sys2Proof.Machine

variable {s : State}

theorem exists_runCommand_eq_next (c : Command) (s : State) : ∃ t, runCommand c s = .next t := by
  cases h : s.agent with
  | outbound => exact ⟨_, runCommand_outbound c h⟩
  | inbound => exact ⟨_, runCommand_inbound c h⟩

/-- INBOUND has a next state or refuses a frame (R93). -/
theorem inbound_ne_fault (r : ReadResult) (s : State) (x : Fault) : inbound r s ≠ .fault x := by
  cases r with
  | timeout => simp [inbound]
  | fail => simp [inbound]
  | data f =>
    cases h : decode s.params.profile f with
    | decoded i =>
      obtain ⟨t, ht⟩ := exists_runCommand_eq_next i.command s
      simp [inbound, h, exec_eq_runCommand, ht]
    | idle | ignored | unrecognizedCode | tooLong => simp [inbound, h]

theorem inboundTurn_ne_fault (s : State) (x : Fault) : inboundTurn s ≠ .fault x := by
  rcases inboundTurn_cases s with e | ⟨-, -, -, e⟩ | ⟨r, rs, -, -, -, e⟩ | e <;> rw [e]
  · simp
  · simp
  · exact inbound_ne_fault _ _ x
  · simp

theorem outboundTurn_ne_fault (s : State) (x : Fault) : outboundTurn s ≠ .fault x := by
  obtain ⟨t, ht⟩ := exists_outboundTurn_eq_next s
  simp [ht]

theorem takeTurn_environment_ne_fault {turn : Turn} (hout : turn ≠ .outbound) (hin : turn ≠ .inbound) (x : Fault) :
    takeTurn turn s ≠ .fault x := by
  cases turn with
  | outbound => exact absurd rfl hout
  | inbound => exact absurd rfl hin
  | initFrames | restart => simp [takeTurn]
  | shutdown b =>
    simp only [takeTurn]
    split_ifs <;> simp

/-- A turn faults exactly when it is an agent's and both agents have stopped. -/
theorem takeTurn_fault_iff {turn : Turn} : takeTurn turn s = .fault .allAgentsStopped ↔
    s.inboundRunning = false ∧ s.outboundRunning = false ∧ (turn = .outbound ∨ turn = .inbound) := by
  constructor
  · intro h
    have hagent : turn = .outbound ∨ turn = .inbound := by
      by_contra hne
      rw [not_or] at hne
      exact takeTurn_environment_ne_fault hne.1 hne.2 _ h
    have hstopped : ¬ (s.outboundRunning = true ∨ s.inboundRunning = true) := by
      intro hrun
      rcases hagent with rfl | rfl
      · exact outboundTurn_ne_fault s _ ((takeTurn_outbound hrun).symm.trans h)
      · exact inboundTurn_ne_fault s _ ((takeTurn_inbound hrun).symm.trans h)
    simp only [not_or, Bool.not_eq_true] at hstopped
    exact ⟨hstopped.2, hstopped.1, hagent⟩
  · rintro ⟨hin, hout, rfl | rfl⟩
    · exact (takeTurn_stopped hout hin).1
    · exact (takeTurn_stopped hout hin).2

theorem step_nil (hu : Usable s) (hs : s.schedule = []) : step s = .next s := by
  simp [step, advance, (Profile.admissible_iff _).2 hu.1, hu.2, hs]

theorem usable_of_step_fault {x : Fault} (h : step s = .fault x) : Usable s := by
  by_contra hu
  obtain ⟨r, hr⟩ := step_unusable hu
  cases (hr s.schedule).symm.trans h

/-- Settles O51: a fault comes from the turn taken, and only a stopped pair of agents makes it. -/
theorem onlyTwoStoppedAgentsFault : Obligations.OnlyTwoStoppedAgentsFault := by
  intro s
  constructor
  · intro h
    have hu := usable_of_step_fault h
    cases hs : s.schedule with
    | nil =>
      rw [step_nil hu hs] at h
      cases h
    | cons turn rest =>
      rw [step_turn hu.1 hu.2 hs, takeTurn_fault_iff] at h
      obtain ⟨hin, hout, hturn⟩ := h
      exact ⟨hu, hin, hout, rest, by simpa using hturn⟩
  · rintro ⟨hu, hin, hout, rest, hs | hs⟩ <;> rw [step_turn hu.1 hu.2 hs, takeTurn_fault_iff]
    · exact ⟨hin, hout, .inl rfl⟩
    · exact ⟨hin, hout, .inr rfl⟩

end Sys2Proof.Machine
end

section
/-! DEBOUNCE on its own (44_debounce.md R115 to R117, R123): what it answers and what it leaves in DebounceState. -/

namespace Sys2Proof.Machine

variable {w : Int} {d : DebounceState} {x : Text} {now : Int}

theorem debounce_suppress_iff :
    (debounce w d x now).1 = .suppress ↔ x = d.lastText ∧ now - d.lastTimestamp < w := by
  by_cases h : x = d.lastText ∧ now - d.lastTimestamp < w
  · rw [debounce_suppress h]
    exact iff_of_true rfl h
  · rw [debounce_emit h]
    exact iff_of_false (by simp) h

theorem debounce_emit_of_ne (h : x ≠ d.lastText) : debounce w d x now = (.emit x, ⟨x, now⟩) :=
  debounce_emit fun hrepeat => h hrepeat.1

theorem debounce_emit_of_window_le (h : w ≤ now - d.lastTimestamp) : debounce w d x now = (.emit x, ⟨x, now⟩) :=
  debounce_emit fun hrepeat => absurd hrepeat.2 (not_lt.2 h)

/-- Emitted or suppressed, the event's text is the one remembered. -/
theorem debounce_lastText (w : Int) (d : DebounceState) (x : Text) (now : Int) :
    (debounce w d x now).2.lastText = x := by
  by_cases h : x = d.lastText ∧ now - d.lastTimestamp < w
  · rw [debounce_suppress h]
    exact h.1.symm
  · rw [debounce_emit h]

/-- Settles O35, by the two cases of DEBOUNCE. -/
theorem emissionWritesBothFields : Obligations.EmissionWritesBothFields := by
  refine fun w d x now => ⟨fun y hy => ?_, debounce_emit_of_ne⟩
  by_cases h : x = d.lastText ∧ now - d.lastTimestamp < w
  · rw [debounce_suppress h] at hy
    cases hy
  · rw [debounce_emit h] at hy ⊢
    cases hy
    exact ⟨rfl, rfl⟩

/-- Repeats inside the window of an emission leave DebounceState as the emission left it (R152). -/
theorem foldl_debounce_repeats {last : Int} {times : List Int} (h : ∀ t ∈ times, t - last < w) :
    times.foldl (fun d t => (debounce w d x t).2) ⟨x, last⟩ = ⟨x, last⟩ := by
  induction times with
  | nil => rfl
  | cons t times ih =>
    obtain ⟨ht, htimes⟩ := List.forall_mem_cons.1 h
    rw [List.foldl_cons, debounce_suppress ⟨rfl, ht⟩]
    exact ih htimes

/-- Settles O38: repeats do not move the window, and only the last text is remembered. -/
theorem heldKeyOncePerWindowAlternationsAlways : Obligations.HeldKeyOncePerWindowAlternationsAlways := by
  refine ⟨fun w x last times next htimes hnext => ?_, fun w d a b t1 t2 t3 hab => ⟨debounce_emit, ?_, ?_⟩⟩
  · simp only [foldl_debounce_repeats htimes]
    exact ⟨trivial, debounce_emit_of_window_le hnext, fun t ht => debounce_suppress ⟨rfl, htimes t ht⟩⟩
  · exact debounce_emit_of_ne (by rw [debounce_lastText]; exact hab.symm)
  · exact debounce_emit_of_ne (by rw [debounce_lastText]; exact hab)

end Sys2Proof.Machine
end

section
/-! A command on the inbound agent, and INBOUND of a read (44_debounce.md R114, R116, R120 to R123). -/

namespace Sys2Proof

theorem format_ne_nil (p : Profile) (c : Command) : format p c ≠ [] := List.cons_ne_nil _ _

/-- The canonical text of each instruction, as the opcode table writes it (R87). -/
theorem format_eq_text {p : Profile} (hp : p.Admissible) (i : Instr) :
    format p i.command = Laws.TextSyntax.text i := by
  rw [format_eq hp]
  cases i <;> rfl

end Sys2Proof

namespace Sys2Proof.Machine

variable {s t : State} {i : Instr}

theorem exec_inbound (i : Instr) (ha : s.agent = .inbound) : exec i s = .next (receiveCommand i.command s) := by
  rw [exec_eq_runCommand, runCommand_inbound _ ha]

/-- On the inbound agent an instruction is the event with its canonical text. -/
theorem receives_format (i : Instr) (ha : s.agent = .inbound) : Receives i (format s.params.profile i.command) s := by
  refine ⟨fun h => ?_, fun h => ?_⟩ <;> rw [exec_inbound i ha]
  · rw [receiveCommand_suppress h]
    rfl
  · rw [receiveCommand_emit h]
    rfl

theorem receives_text (hp : s.params.profile.Admissible) (ha : s.agent = .inbound) (i : Instr) :
    Receives i (Laws.TextSyntax.text i) s :=
  format_eq_text hp i ▸ receives_format i ha

/-- Settles O29: each command is the event with its canonical text, which the opcode table gives. -/
theorem receivedCommandsAreEmittedOrSuppressed : Obligations.ReceivedCommandsAreEmittedOrSuppressed :=
  fun _ h u hp ha =>
    ⟨receives_text hp ha (.on h u), receives_text hp ha (.off h u), receives_text hp ha (.dim h u),
      receives_text hp ha (.bright h u), receives_text hp ha (.up h u), receives_text hp ha (.down h u),
      receives_text hp ha (.left h u), receives_text hp ha (.right h u)⟩

/-- Settles O37: a canonical text is never empty, so it does not repeat the empty `lastText`. -/
theorem firstEventIsAlwaysEmitted : Obligations.FirstEventIsAlwaysEmitted := by
  intro s i ha hempty
  refine (receives_format i ha).2 fun hrepeat => ?_
  exact format_ne_nil _ _ (hrepeat.1.trans hempty)

theorem receiveCommand_of_suppress {c : Command} (h : (receiveCommand c s).inResult = some .suppress) :
    receiveCommand c s = s.finishInbound .suppress := by
  rcases receiveCommand_cases c s with e | e
  · exact e
  · rw [e] at h
    cases h

/-- Settles O34: DEBOUNCE's test, and a suppressed command records its outcome only. -/
theorem suppressionIsExactlyARepeatInsideTheWindow : Obligations.SuppressionIsExactlyARepeatInsideTheWindow := by
  refine fun w d x now => ⟨debounce_suppress_iff, fun h => ?_, debounce_emit_of_window_le (by omega),
    fun s t i ha h hsup => ?_⟩
  · rw [debounce_suppress (debounce_suppress_iff.1 h)]
  · rw [exec_inbound_next ha h] at hsup ⊢
    rw [receiveCommand_of_suppress hsup]
    exact ⟨rfl, rfl⟩

/-! ### What a command leaves for the next -/

@[simp] theorem receiveCommand_params (c : Command) (s : State) : (receiveCommand c s).params = s.params := by
  rcases receiveCommand_cases c s with e | e <;> rw [e] <;> rfl

@[simp] theorem receiveCommand_agent (c : Command) (s : State) : (receiveCommand c s).agent = s.agent := by
  rcases receiveCommand_cases c s with e | e <;> rw [e] <;> rfl

/-- Emitted or suppressed, a command leaves its canonical text as the last one. -/
@[simp] theorem receiveCommand_lastText (c : Command) (s : State) :
    (receiveCommand c s).debounce.lastText = format s.params.profile c := by
  by_cases h : format s.params.profile c = s.debounce.lastText ∧
      s.now - s.debounce.lastTimestamp < 600 * s.params.ticksPerMs
  · rw [receiveCommand_suppress h]
    exact h.1.symm
  · rw [receiveCommand_emit h]
    rfl

theorem inbound_decoded {f : Frame} (h : decode s.params.profile f = .decoded i) : inbound (.data f) s = exec i s := by
  simp [inbound, h]

/-- Settles O39: INBOUND of either frame runs one command, whose text the first leaves as the last one. -/
theorem framesOfOneCommandAreRepeats : Obligations.FramesOfOneCommandAreRepeats := by
  intro s t f g i later ha hf hg h hlater
  rw [inbound_decoded hf] at h
  obtain rfl := exec_inbound_next ha h
  rw [inbound_decoded (by simpa using hg)]
  exact (receives_format i (by simpa using ha)).1 ⟨by simp, by simpa using hlater⟩

/-! ### The next states of INBOUND -/

/-- INBOUND halts, emits one text, or records an outcome and changes nothing else. -/
theorem inbound_next_cases {r : ReadResult} (ha : s.agent = .inbound) (h : inbound r s = .next t) :
    t = s.halt ∨ (∃ x, t = ((s.setDebounce ⟨x, s.now⟩).lineOut x).finishInbound (.emit x)) ∨
      ∃ o, (∀ x, o ≠ .emit x) ∧ t = s.finishInbound o := by
  rcases inbound_next ha h with ⟨-, rfl⟩ | ⟨f, i, -, -, rfl⟩ | ⟨o, ho, -, -, rfl⟩
  · exact .inl rfl
  · rcases receiveCommand_cases i.command s with e | e
    · exact .inr (.inr ⟨.suppress, by simp, e⟩)
    · exact .inr (.inl ⟨_, e⟩)
  · exact .inr (.inr ⟨o, ho, rfl⟩)

/-- Settles O40: only an emission writes a line. -/
theorem oneLineIsWrittenPerEmission : Obligations.OneLineIsWrittenPerEmission := by
  intro r s t ha h
  rcases inbound_next_cases ha h with rfl | ⟨x, rfl⟩ | ⟨o, ho, rfl⟩
  · exact ⟨fun x hx => (by cases hx), fun _ => rfl⟩
  · refine ⟨fun y hy => ?_, fun hy => (by cases hy)⟩
    cases hy
    rfl
  · exact ⟨fun x hx => absurd (Option.some.inj hx) (ho x), fun _ => rfl⟩

/-- Settles O41: what is left of the next states is a recorded outcome. -/
theorem droppedAndSuppressedEventsChangeNothingElse : Obligations.DroppedAndSuppressedEventsChangeNothingElse := by
  intro r s t ha h hemit hhalt
  rcases inbound_next_cases ha h with rfl | ⟨x, rfl⟩ | ⟨o, -, rfl⟩
  · exact absurd rfl hhalt
  · exact absurd rfl (hemit x)
  · rfl

end Sys2Proof.Machine
end

section
/-! Turns of the inbound agent, and the shutdown turn (44_debounce.md R114, R124, 60_exceptions.md R145,
70_reset_and_hazards.md R156). -/

namespace Sys2Proof.Machine

variable {s : State} {rest : List Turn}

/-- A step of an inbound agent that is ready to read is INBOUND of its next read. -/
theorem step_read {r : ReadInput} {rs : List ReadInput} (hu : Usable s) (hready : ReadyToRead s)
    (hs : s.schedule = .inbound :: rest) (hr : s.reads = r :: rs) :
    step s = inbound r.result ((s.takeTurn rest).beginRead rs r.now) := by
  obtain ⟨hrun, hstay, hinit⟩ := hready
  rw [step_inbound hu hrun hstay hs hr, if_pos hinit]

/-- Settles O43: the read's frame, if it decodes, runs its instruction. -/
theorem stepRunsTheDecodedRead : Obligations.StepRunsTheDecodedRead := by
  intro s rest rs r hu hready hs hr
  have hstep := step_read hu hready hs hr
  refine ⟨hstep, fun f i hf hdec => ?_⟩
  rw [hstep, hf]
  exact inbound_decoded hdec

theorem step_inbound_stopped (hu : Usable s) (hin : s.inboundRunning = false) (hout : s.outboundRunning = true)
    (hs : s.schedule = .inbound :: rest) : step s = .next (s.takeTurn rest) := by
  rw [step_turn hu.1 hu.2 hs, takeTurn_inbound (s := s.takeTurn rest) (.inl hout)]
  simp [inboundTurn, State.takeTurn, hin]

/-- Settles O48: a failed read is INBOUND's halt, and a stopped agent's turn is only spent. -/
theorem failedReadHaltsTheInboundAgent : Obligations.FailedReadHaltsTheInboundAgent :=
  ⟨fun _ _ _ _ hu hready hs hr => step_read hu hready hs hr, fun _ _ => step_inbound_stopped⟩

theorem step_exitLoop (hu : Usable s) (hrun : s.inboundRunning = true) (hflag : s.shutdownFlag = true)
    (hflight : s.readInFlight = false) (hs : s.schedule = .inbound :: rest) :
    step s = .next (s.takeTurn rest).exitLoop := by
  rw [step_turn hu.1 hu.2 hs, takeTurn_inbound (s := s.takeTurn rest) (.inr hrun)]
  simp [inboundTurn, State.takeTurn, hrun, hflag, hflight]

theorem step_shutdown {b : Bool} (hu : Usable s) (hs : s.schedule = .shutdown b :: rest)
    (hb : b = true → s.initSent = true) : step s = .next ((s.takeTurn rest).requestShutdown b) := by
  have hallowed : (b && !s.initSent) = false := by
    cases b
    · rfl
    · simp [hb rfl]
  rw [step_turn hu.1 hu.2 hs]
  simp [takeTurn, State.takeTurn, hallowed]

theorem requestShutdown_of_clear (b : Bool) (h : s.shutdownFlag = false) :
    s.requestShutdown b = { s with shutdownFlag := true, readInFlight := b } := by
  simp [State.requestShutdown, h]

theorem requestShutdown_of_set (b : Bool) (h : s.shutdownFlag = true) : s.requestShutdown b = s := if_pos h

/-- INBOUND neither sets the shutdown flag nor marks a read in flight (log 13). -/
theorem inbound_keeps_shutdown {t : State} {r : ReadResult} (ha : s.agent = .inbound) (h : inbound r s = .next t) :
    t.shutdownFlag = s.shutdownFlag ∧ t.readInFlight = s.readInFlight := by
  rcases inbound_next_cases ha h with rfl | ⟨x, rfl⟩ | ⟨o, -, rfl⟩ <;> exact ⟨rfl, rfl⟩

/-- Settles O49: the shutdown turn, the turn with a read in flight, the turn without one, and INBOUND. -/
theorem shutdownLetsTheReadInFlightFinish : Obligations.ShutdownLetsTheReadInFlightFinish := by
  refine ⟨fun s rest b hu hs hb => ⟨fun hclear => ?_, fun hset => ?_⟩,
    fun s rest rs r hu hrun hinit _ hflight hs hr => step_read hu ⟨hrun, fun _ => hflight, hinit⟩ hs hr,
    fun s rest => step_exitLoop, fun s t r => inbound_keeps_shutdown⟩
  · rw [step_shutdown hu hs hb, requestShutdown_of_clear (s := s.takeTurn rest) b hclear]
    rfl
  · rw [step_shutdown hu hs hb, requestShutdown_of_set (s := s.takeTurn rest) b hset]
    rfl

end Sys2Proof.Machine
end

section
/-! What each command sends on the outbound agent (45_commands.md R126 to R133, 43_line_parser.md R113), and the words of
the opcode table's examples. -/

namespace Sys2Proof.Machine

variable {s : State} {k : Kind} {h : House} {u : Nat}

/-! ### The bytes of a frame on natural numbers -/

theorem toNat_not8 (b : Byte) : (not8 b).toNat = 255 - b.toNat := by
  rw [not8, show (0xFF : Byte) = BitVec.allOnes 8 from rfl, BitVec.xor_allOnes, BitVec.toNat_not]

theorem map_toNat_encodeNormal {cc : Code} (hcc : isPanTiltCode cc = false) (uc : Code) (hc : Byte) :
    (encodeNormal uc hc cc).map BitVec.toNat = normalBytes uc.toNat hc.toNat cc.toNat := by
  have hb1 : ((uc >>> 8).setWidth 8 ||| hc : Byte).toNat = (uc.toNat >>> 8) ||| hc.toNat := by
    rw [BitVec.toNat_or, toNat_highByte]
  simp only [encodeNormal, normalBytes, List.map_cons, List.map_nil, toNat_not8, toNat_byteThree hcc, hb1]
  rfl

theorem map_toNat_encodePanTilt (cc : Code) (hc cam : Byte) :
    (encodePanTilt cc hc cam).map BitVec.toNat = panTiltBytes cc.toNat hc.toNat cam.toNat := by
  simp only [encodePanTilt, panTiltBytes, List.map_cons, List.map_nil, BitVec.toNat_or, toNat_highByte, toNat_lowByte]
  rfl

/-! ### What a Command of each family sends -/

theorem sends_normal {uc : Code} (hp : s.params.profile.Admissible) (ha : s.agent = .outbound)
    (hw : s.writeAnswer = .accepted) (hk : k.isPanTilt = false) (hu : unitCodeFor s.params k u = some uc) :
    Sends (Command.instr ⟨k, h, u⟩)
      (normalBytes uc.toNat (s.params.profile.house h).toNat (s.params.profile.cmd k).toNat) s :=
  have hcode : isPanTiltCode (s.params.profile.cmd k) = false := (hp.isPanTiltCode_cmd k).trans hk
  ⟨_, map_toNat_encodeNormal hcode uc _, exec_writes ha hw (encode_normal hcode hu)⟩

/-- With a unit 1..16 the unit code is the table's (R72). -/
theorem sends_unit {n : UnitEntry} (hp : s.params.profile.Admissible) (ha : s.agent = .outbound)
    (hw : s.writeAnswer = .accepted) (hk : k.isPanTilt = false) :
    Sends (Command.instr ⟨k, h, unitNumber n⟩)
      (normalBytes (s.params.profile.unit n).toNat (s.params.profile.house h).toNat (s.params.profile.cmd k).toNat) s :=
  sends_normal hp ha hw hk (unitCodeFor_unitNumber s.params k n)

theorem sends_panTilt (hp : s.params.profile.Admissible) (ha : s.agent = .outbound)
    (hw : s.writeAnswer = .accepted) (hk : k.isPanTilt = true) :
    Sends (Command.instr ⟨k, h, u⟩)
      (panTiltBytes (s.params.profile.cmd k).toNat (s.params.profile.house h).toNat (s.params.profile.cam h).toNat) s :=
  ⟨_, map_toNat_encodePanTilt _ _ _, exec_writes ha hw (encode_panTilt h u ((hp.isPanTiltCode_cmd k).trans hk))⟩

/-! ### The obligations -/

/-- Settles O26: both are normal kinds, and a unit 1..16 has a code in the table. -/
theorem onAndOffSendNormalFrames : Obligations.OnAndOffSendNormalFrames := by
  intro s h n hp ha hw p
  exact ⟨sends_unit hp ha hw rfl, sends_unit hp ha hw rfl⟩

/-- Settles O27: a unit 1..16 has a code in the table, and without a unit the code is UNIT0_CODE (D10). -/
theorem dimAndBrightSendNormalFrames : Obligations.DimAndBrightSendNormalFrames := by
  intro s h n hp ha hw p
  have hdim : unitCodeFor s.params .dim 0 = some s.params.unit0Code := unitCodeFor_zero s.params (.inl rfl)
  have hbright : unitCodeFor s.params .bright 0 = some s.params.unit0Code := unitCodeFor_zero s.params (.inr rfl)
  exact ⟨sends_unit hp ha hw rfl, sends_unit hp ha hw rfl, sends_normal hp ha hw rfl hdim,
    sends_normal hp ha hw rfl hbright⟩

/-- Settles O28: each is a pan/tilt kind, whose frame takes no unit code. -/
theorem panTiltCommandsSendPanTiltFrames : Obligations.PanTiltCommandsSendPanTiltFrames := by
  intro s h u hp ha hw p frame
  have hsends (k : Kind) (hk : k.isPanTilt = true) : Sends (Command.instr ⟨k, h, u⟩) (frame k) s :=
    sends_panTilt hp ha hw hk
  exact ⟨hsends .up rfl, hsends .down rfl, hsends .left rfl, hsends .right rfl⟩

/-- Settles O12: the six words are closed, and the decoder runs on each. -/
theorem tableExampleWordsDecode : Obligations.TableExampleWordsDecode := by
  refine ⟨?_, ?_, ?_, ?_, ?_, ?_⟩ <;> decide

end Sys2Proof.Machine
end

section
/-! What reset leaves, and the restart turn (70_reset_and_hazards.md R147, R148). -/

namespace Sys2Proof.Machine

/-- A pan/tilt frame that carries the code of a house and of a command, when UNIT_CODE(1) decodes to unit 1 (R73,
R95). -/
theorem decode_panTilt_codes {p : Profile} (hp : p.Admissible) (hunit : p.codeToUnit (p.unit 0) = some 0) {k : Kind}
    (l : House) {b1 b2 : Byte} (hcode : (p.cmd k).toNat = ((b1.toNat &&& 0x0F) <<< 8) ||| b2.toNat) :
    decode p [0x14, b1, b2, p.house l] = .decoded (Command.instr ⟨k, l, 1⟩) := by
  have hcmd : panTiltCmdCode b1 b2 = p.cmd k := BitVec.eq_of_toNat_eq ((toNat_panTiltCmdCode b1 b2).trans hcode.symm)
  rw [decode_panTiltFrame, decodePanTilt, hcmd]
  exact hp.lookupCommand_decoded l k hunit

/-- Settles O54: what `DeviceProfile` says of reset's tables, read off the frame of `+a1` and off a pan/tilt frame. -/
theorem resetState : Obligations.ResetState := by
  have hp : State.reset.params.profile.Admissible := Config.profile.admissible
  refine ⟨hp, rfl, rfl, rfl, fun f hf => ?_, Config.profile.unitOne,
    fun k l b1 b2 => decode_panTilt_codes hp Config.profile.unitOne l⟩
  cases (encode_normal (hp.isPanTiltCode_cmd .on) (unitCodeFor_unitNumber _ .on 0)).symm.trans hf
  exact ⟨rfl, _, rfl, Config.profile.exampleBits⟩

/-- Settles O55: a usable state's step is its next turn, here the restart. -/
theorem restartForgetsTheBlockState : Obligations.RestartForgetsTheBlockState := by
  intro s rest hu hs
  rw [step_turn hu.1 hu.2 hs]
  rfl

end Sys2Proof.Machine
end

section
/-! Fair runs (70_reset_and_hazards.md R157, R159; log 29). What waits for an agent's turn is kept by every step that is
not such a turn and by what the environment supplies, so that it still waits when fairness brings the turn. -/

namespace Sys2Proof.Machine

variable {s t : State} {r : Nat → State} {n m : Nat}

/-! ### What waits -/

/-- The outbound agent runs, and the head of its queue is `x`, with `ls` behind it. -/
def LineWaits (x : LineInput) (ls : List LineInput) (s : State) : Prop :=
  s.outboundRunning = true ∧ x :: ls <+: s.lines

/-- The inbound agent is ready, and the head of its queue is `x`, with `rs` behind it. -/
def ReadWaits (x : ReadInput) (rs : List ReadInput) (s : State) : Prop :=
  ReadyToRead s ∧ x :: rs <+: s.reads

/-- The inbound agent is ready, and not only for a read in flight. -/
def Listening (s : State) : Prop := ReadyToRead s ∧ s.shutdownFlag = false

/-- The next turn handles a read or ends the wait for one: a shutdown without it, or a restart (R148, R156). -/
def EndsReadWait (s : State) : Prop :=
  TakesTurn .inbound s ∨ s.schedule.head? = some (.shutdown false) ∨ s.schedule.head? = some .restart

/-- A shutdown or a restart is next, or the next read fails. -/
def Disturbed (s : State) : Prop :=
  (∃ b, s.schedule.head? = some (.shutdown b)) ∨ s.schedule.head? = some .restart ∨
    ∃ x, s.reads.head? = some x ∧ x.result = .fail

/-! ### What a step keeps -/

/-- Only the outbound agent's turn takes a line off its queue or stops it. -/
theorem step_keeps_lines (h : step s = .next t) (hturn : ¬ TakesTurn .outbound s) :
    t.lines = s.lines ∧ (s.outboundRunning = true → t.outboundRunning = true) := by
  rcases step_cases h with rfl | ⟨rest, rfl | ⟨ls, hs, -⟩ | ⟨ls, a, hs, -⟩ | ⟨-, -, rfl⟩ |
    ⟨r, rs, -, -, hread⟩ | rfl | ⟨b, -, -, rfl⟩ | ⟨-, rfl⟩⟩
  · exact ⟨rfl, id⟩
  · exact ⟨rfl, id⟩
  · exact absurd (congrArg List.head? hs) hturn
  · exact absurd (congrArg List.head? hs) hturn
  · exact ⟨rfl, id⟩
  · rcases hread with ⟨-, rfl⟩ | ⟨f, i, -, rfl⟩ | ⟨o, -, rfl⟩
    · exact ⟨rfl, id⟩
    · rcases receiveCommand_cases i.command ((s.takeTurn rest).beginRead rs r.now) with e | e <;> rw [e] <;>
        exact ⟨rfl, id⟩
    · exact ⟨rfl, id⟩
  · exact ⟨rfl, id⟩
  · simp
  · exact ⟨rfl, fun _ => rfl⟩

theorem ReadyToRead.requestShutdown (h : ReadyToRead s) : ReadyToRead (s.requestShutdown true) := by
  rcases requestShutdown_cases s true with e | e <;> rw [e]
  · exact h
  · exact ⟨h.1, fun _ => rfl, h.2.2⟩

/-- Only the inbound agent's turn takes a read off its queue, and an agent that is ready stays so until its turn, a
shutdown without a read in flight, or a restart. -/
theorem step_keeps_reads (h : step s = .next t) (hwait : ¬ EndsReadWait s) :
    t.reads = s.reads ∧ (ReadyToRead s → ReadyToRead t) := by
  simp only [EndsReadWait, not_or] at hwait
  obtain ⟨hturn, hshutdown, hrestart⟩ := hwait
  rcases step_cases h with rfl | ⟨rest, rfl | ⟨ls, -, rfl⟩ | ⟨ls, a, -, hline⟩ | ⟨hs, -⟩ |
    ⟨r, rs, hs, -⟩ | rfl | ⟨b, -, hs, rfl⟩ | ⟨hs, -⟩⟩
  · exact ⟨rfl, id⟩
  · exact ⟨rfl, id⟩
  · exact ⟨rfl, id⟩
  · rcases hline with ⟨line, c, f, -, -, rfl | rfl⟩ | rfl | ⟨e, rfl⟩ <;> exact ⟨rfl, id⟩
  · exact absurd (congrArg List.head? hs) hturn
  · exact absurd (congrArg List.head? hs) hturn
  · exact ⟨rfl, fun hready => ⟨hready.1, hready.2.1, rfl⟩⟩
  · cases b with
    | false => exact absurd (congrArg List.head? hs) hshutdown
    | true => exact ⟨requestShutdown_reads _ _, ReadyToRead.requestShutdown (s := s.takeTurn rest)⟩
  · exact absurd (congrArg List.head? hs) hrestart

/-- A read that does not fail leaves the agent listening. -/
theorem step_keeps_listening (h : step s = .next t) (hs : Listening s) (hcalm : ¬ Disturbed s) : Listening t := by
  simp only [Disturbed, not_or] at hcalm
  obtain ⟨hshutdown, hrestart, hfail⟩ := hcalm
  rcases step_cases h with rfl | ⟨rest, rfl | ⟨ls, -, rfl⟩ | ⟨ls, a, -, hline⟩ | ⟨-, hready, -⟩ |
    ⟨r, rs, -, hr, hread⟩ | rfl | ⟨b, -, hb, -⟩ | ⟨hre, -⟩⟩
  · exact hs
  · exact hs
  · exact hs
  · rcases hline with ⟨line, c, f, -, -, rfl | rfl⟩ | rfl | ⟨e, rfl⟩ <;> exact hs
  · exact absurd hs.1 hready
  · obtain ⟨⟨hrun, -, hinit⟩, hflag⟩ := hs
    have hlistening : Listening ((s.takeTurn rest).beginRead rs r.now) :=
      ⟨⟨hrun, fun hset => absurd (hflag.symm.trans hset) Bool.false_ne_true, hinit⟩, hflag⟩
    rcases hread with ⟨hf, -⟩ | ⟨f, i, -, rfl⟩ | ⟨o, -, rfl⟩
    · exact absurd ⟨r, congrArg List.head? hr, hf⟩ hfail
    · rcases receiveCommand_cases i.command ((s.takeTurn rest).beginRead rs r.now) with e | e <;> rw [e] <;>
        exact hlistening
    · exact hlistening
  · exact ⟨⟨hs.1.1, hs.1.2.1, rfl⟩, hs.2⟩
  · exact absurd ⟨b, congrArg List.head? hb⟩ hshutdown
  · exact absurd (congrArg List.head? hre) hrestart

/-! ### What a run keeps -/

/-- `P` outlasts every step but one at `Q`, whatever the environment supplies after it. -/
def LastsUntil (P Q : State → Prop) : Prop :=
  ∀ s t, P s → ¬ Q s → step s = .next t → ∀ turns lines reads, P (t.supply turns lines reads)

theorem lineWaits_lastsUntil (x : LineInput) (ls : List LineInput) :
    LastsUntil (LineWaits x ls) (TakesTurn .outbound) := by
  rintro s t ⟨hrun, hwaits⟩ hturn h turns lines reads
  obtain ⟨hlines, hrun'⟩ := step_keeps_lines h hturn
  exact ⟨hrun' hrun, (hlines ▸ hwaits).trans ⟨lines, rfl⟩⟩

theorem readWaits_lastsUntil (x : ReadInput) (rs : List ReadInput) : LastsUntil (ReadWaits x rs) EndsReadWait := by
  rintro s t ⟨hready, hwaits⟩ hwait h turns lines reads
  obtain ⟨hreads, hready'⟩ := step_keeps_reads h hwait
  exact ⟨hready' hready, (hreads ▸ hwaits).trans ⟨reads, rfl⟩⟩

theorem listening_lastsUntil : LastsUntil Listening Disturbed :=
  fun _ t hs hcalm h _ _ _ => step_keeps_listening (t := t) h hs hcalm

/-- What lasts until `Q` holds at every later point of a run, unless `Q` has come. -/
theorem IsRun.holds_or_comes {P Q : State → Prop} (hrun : IsRun r) (hlasts : LastsUntil P Q) (h : P (r n))
    (hm : n ≤ m) : P (r m) ∨ ∃ k, n ≤ k ∧ P (r k) ∧ Q (r k) := by
  induction m, hm using Nat.le_induction with
  | base => exact .inl h
  | succ m hm ih =>
    rcases ih with hP | hcame
    · by_cases hQ : Q (r m)
      · exact .inr ⟨m, hm, hP, hQ⟩
      · obtain ⟨t, turns, lines, reads, hstep, e⟩ := hrun m
        exact .inl (e ▸ hlasts _ t hP hQ hstep turns lines reads)
    · exact .inr hcame

/-- What lasts until `Q`, and at some later point brings `Q` if it still holds there, holds when `Q` comes. -/
theorem IsRun.comes {P Q : State → Prop} (hrun : IsRun r) (hlasts : LastsUntil P Q) (h : P (r n))
    (hfair : ∃ m, n ≤ m ∧ (P (r m) → Q (r m))) : ∃ k, n ≤ k ∧ P (r k) ∧ Q (r k) := by
  obtain ⟨m, hm, hcome⟩ := hfair
  rcases hrun.holds_or_comes hlasts h hm with hP | hcame
  · exact ⟨m, hm, hP, hcome hP⟩
  · exact hcame

/-! ### Fairness -/

theorem LineWaits.hasInput {x : LineInput} {ls : List LineInput} (h : LineWaits x ls s) : HasInput s .outbound :=
  ⟨h.1, h.2.ne_nil (List.cons_ne_nil x ls)⟩

theorem ReadWaits.hasInput {x : ReadInput} {rs : List ReadInput} (h : ReadWaits x rs s) : HasInput s .inbound :=
  .inl ⟨h.1, h.2.ne_nil (List.cons_ne_nil x rs)⟩

theorem FairRun.line_taken (hr : FairRun r) {x : LineInput} {ls : List LineInput} (h : LineWaits x ls (r n)) :
    ∃ m, n ≤ m ∧ LineWaits x ls (r m) ∧ TakesTurn .outbound (r m) := by
  obtain ⟨m, hm, hturn⟩ := hr.weaklyFair .outbound n
  exact hr.run.comes (lineWaits_lastsUntil x ls) h ⟨m, hm, fun hwaits => hturn hwaits.hasInput⟩

theorem FairRun.read_wait_ends (hr : FairRun r) {x : ReadInput} {rs : List ReadInput} (h : ReadWaits x rs (r n)) :
    ∃ m, n ≤ m ∧ ReadWaits x rs (r m) ∧ EndsReadWait (r m) := by
  obtain ⟨m, hm, hturn⟩ := hr.weaklyFair .inbound n
  exact hr.run.comes (readWaits_lastsUntil x rs) h ⟨m, hm, fun hwaits => .inl (hturn hwaits.hasInput)⟩

theorem IsRun.goes_on_listening (hrun : IsRun r) (h : Listening (r n)) (hcalm : ∀ m, n ≤ m → ¬ Disturbed (r m))
    (hm : n ≤ m) : Listening (r m) := by
  rcases hrun.holds_or_comes listening_lastsUntil h hm with hlistening | ⟨k, hk, -, hdisturbed⟩
  · exact hlistening
  · exact absurd hdisturbed (hcalm k hk)

/-- Settles O53: a line and a read wait until fairness brings their turn, and an agent that goes on listening is polled
after any point of the run. -/
theorem fairRunsServeBothAgents : Obligations.FairRunsServeBothAgents := by
  intro r hr
  refine ⟨fun n x ls hrun hlines => ?_, fun n x rs hready hreads => ?_, fun n hready hflag hcalm k => ?_⟩
  · obtain ⟨m, hm, ⟨hrun', more, hmore⟩, hturn⟩ := hr.line_taken ⟨hrun, by rw [hlines]⟩
    exact ⟨m, more, hm, hturn, hrun', hmore.symm⟩
  · obtain ⟨m, hm, ⟨hready', more, hmore⟩, hturn | hended⟩ := hr.read_wait_ends ⟨hready, by rw [hreads]⟩
    · exact ⟨m, more, hm, .inl ⟨hturn, hready', hmore.symm⟩⟩
    · exact ⟨m, more, hm, .inr hended⟩
  · have hundisturbed : ∀ m, n ≤ m → ¬ Disturbed (r m) := by
      rintro m hm (⟨b, hb⟩ | hrestart | ⟨x, hx, hfail⟩)
      · exact (hcalm m hm).1 b hb
      · exact (hcalm m hm).2.1 hrestart
      · exact (hcalm m hm).2.2 x hx hfail
    obtain ⟨m, hm, hpolled⟩ := hr.polled (max k n)
    have hn : n ≤ m := (le_max_right k n).trans hm
    have hready' : ReadyToRead (r m) := (hr.run.goes_on_listening ⟨hready, hflag⟩ hundisturbed hn).1
    obtain ⟨hturn, hreads⟩ := hpolled hready'
    exact ⟨m, (le_max_left k n).trans hm, hn, hturn, hready', hreads⟩

end Sys2Proof.Machine
end

section
/-! The line parser on short lines and on the characters after the house letter (43_line_parser.md R102, R106 to
R110). -/

namespace Sys2Proof

/-! ### Lines too short -/

/-- With a second character, the line is decided by a later check (R100). -/
theorem parse_two_ne_tooShort (c0 c1 : Char) (ds : Text) : parse (c0 :: c1 :: ds) ≠ .err .tooShort := by
  intro herr
  rcases le_or_gt ds.length 3 with hlen | hlen
  · rcases parse_cases c0 c1 hlen with ⟨-, e⟩ | ⟨k, -, ⟨-, e⟩ | ⟨l, -, e⟩⟩ <;> rw [e] at herr
    · cases herr
    · cases herr
    · simpa using parseUnit_err herr
  · rw [parse_tooLong_of_rest hlen] at herr
    cases herr

theorem parse_tooShort_iff (line : Text) : parse line = .err .tooShort ↔ line.length = 1 := by
  match line with
  | [] => simp [parse]
  | [_] => exact iff_of_true rfl rfl
  | c0 :: c1 :: ds => exact iff_of_false (parse_two_ne_tooShort c0 c1 ds) (by simp)

/-! ### Digits -/

theorem isAsciiDigit_iff {ch : Char} : isAsciiDigit ch = true ↔ 48 ≤ ch.toNat ∧ ch.toNat ≤ 57 := by
  simp [isAsciiDigit]

theorem not_all_isAsciiDigit_iff {ds : Text} :
    ds.all isAsciiDigit = false ↔ ∃ ch ∈ ds, ¬ (48 ≤ ch.toNat ∧ ch.toNat ≤ 57) := by
  simp only [List.all_eq_false, isAsciiDigit_iff]

/-- The digits are checked first, and no later check of the unit answers InvalidDigit (R100, R106). -/
theorem parseUnit_invalidDigit_iff {k : Kind} {l : House} {ds : Text} :
    parseUnit k l ds = .err .invalidDigit ↔ ds.all isAsciiDigit = false := by
  unfold parseUnit
  split_ifs with hdigits hmissing hrange
  · exact iff_of_true rfl hdigits
  all_goals exact iff_of_false (by simp) hdigits

/-- Settles O20: a line of one character fails the first check, and the digits are the first of the unit's checks. -/
theorem shortLinesAndNonDigitsAreRejected : Obligations.ShortLinesAndNonDigitsAreRejected := by
  refine ⟨parse_tooShort_iff, fun k l ds hlen => ?_⟩
  rw [parse_symbol_house k l hlen, parseUnit_invalidDigit_iff, not_all_isAsciiDigit_iff]

/-! ### The unit -/

@[simp] theorem isAsciiDigit_digit (d : Fin 10) : isAsciiDigit (Char.ofNat (48 + d.val)) = true := by
  revert d
  decide

@[simp] theorem digitValue_digit (d : Fin 10) : digitValue (Char.ofNat (48 + d.val)) = d.val := by
  revert d
  decide

/-- One to three digits leave the range of the unit they are read as to decide (R109). -/
theorem parse_digits (k : Kind) (l : House) {ds : Text} {u : Nat} (hlen : ds.length ≤ 3) (hne : ds ≠ [])
    (hdigits : ds.all isAsciiDigit = true) (hvalue : unitValue ds = u) :
    parse (kindToSymbol k :: houseChar l :: ds) =
      if unitInRange k u = true then .ok ⟨k, l, u⟩ else .err .invalidUnit := by
  simp [parse_symbol_house k l hlen, parseUnit, hdigits, hne, hvalue]

/-- Settles O22: the value of at most the first two digits, and the range of the kind (D8, D9, D11). -/
theorem unitIsReadFromTheFirstTwoDigits : Obligations.UnitIsReadFromTheFirstTwoDigits := by
  intro k l x y z ch answer
  have htwo (rest : Text) : unitValue (ch x :: ch y :: rest) = 10 * x.val + y.val := by
    simp [unitValue, ch, Nat.mul_comm]
  exact ⟨parse_digits k l (by simp) (by simp) (by simp [ch]) (digitValue_digit x),
    parse_digits k l (by simp) (by simp) (by simp [ch]) (htwo []),
    parse_digits k l (by simp) (by simp) (by simp [ch]) (htwo [ch z])⟩

end Sys2Proof
end

section
/-! A failed write on the outbound agent (60_exceptions.md R137), and a repeat on the inbound agent while the clock does
not advance (44_debounce.md R118). -/

namespace Sys2Proof.Machine

variable {s : State} {i : Instr} {rest : List Turn}

/-- A command with a frame that the transport does not accept. -/
theorem exec_failWrite {f : Frame} (ha : s.agent = .outbound) (hw : s.writeAnswer = .transportError)
    (henc : encode s.params i.command = .ok f) : exec i s = .next s.failWrite := by
  have hsend : sendCommand i.command s = s.failWrite := by simp [sendCommand, henc, State.frameOut, hw]
  rw [exec_eq_runCommand, runCommand_outbound _ ha, hsend]

/-- A stopped outbound agent spends its turn (log 11). -/
theorem step_outbound_stopped (hu : Usable s) (hout : s.outboundRunning = false) (hin : s.inboundRunning = true)
    (hs : s.schedule = .outbound :: rest) : step s = .next (s.takeTurn rest) := by
  rw [step_turn hu.1 hu.2 hs, takeTurn_outbound (s := s.takeTurn rest) (.inr hin)]
  simp [outboundTurn, State.takeTurn, hout]

/-- Settles O31: a valid Command has a frame, which FRAME_OUT fails to write; a stopped agent's turn is only spent. -/
theorem failedWriteStopsTheOutboundAgent : Obligations.FailedWriteStopsTheOutboundAgent := by
  refine ⟨fun s i hp ha hw hwf => ?_, fun s rest => step_outbound_stopped⟩
  obtain ⟨f, henc⟩ := exists_encode_ok hp hwf
  exact ⟨⟨f, henc⟩, exec_failWrite ha hw henc⟩

/-- Settles O36: a time that has not advanced is inside the window, since elapsed is signed (D17). -/
theorem repeatsAreSuppressedWhenTheClockGoesBack : Obligations.RepeatsAreSuppressedWhenTheClockGoesBack := by
  intro s i ht ha htext hclock
  have hinside : s.now - s.debounce.lastTimestamp < 600 * s.params.ticksPerMs := by omega
  exact (receives_format i ha).1 ⟨htext, hinside⟩

end Sys2Proof.Machine
end

section
/-! The status numbers (10_state.md R32, 60_exceptions.md R135). -/

namespace Sys2Proof.Machine

/-- The statuses in the order of the spec's table (R32), so that each stands at its number. -/
def Status.table : List Status :=
  [.ok, .noOp, .tooShort, .tooLong, .invalidCommandSymbol, .invalidHouseLetter, .invalidDigit, .missingUnit,
    .invalidUnit, .unrecognizedCode, .ignoredUnknownPrefix, .ignoredShortFrame, .idle, .suppress, .halted]

theorem Status.table_code (a : Status) : Status.table[a.code.toNat]? = some a := by
  cases a <;> rfl

theorem Status.code_injective : Function.Injective Status.code := by
  intro a b h
  have hentry : some a = some b := by rw [← Status.table_code a, h, Status.table_code b]
  exact Option.some.inj hentry

/-- Settles O52: the status functions compute each number, and the table of R32 tells the numbers apart. -/
theorem everyPortResultHasItsStatusNumber : Obligations.EveryPortResultHasItsStatusNumber :=
  ⟨fun _ _ _ _ _ => ⟨rfl, rfl, rfl, rfl, rfl, rfl, rfl, rfl, rfl⟩,
    rfl, rfl, -- an empty line
    rfl, rfl, rfl, rfl, rfl, rfl, rfl, -- the validation errors
    rfl, rfl, rfl, rfl, rfl, rfl, -- frames that give no Command
    rfl, rfl, rfl, rfl, rfl, -- the inbound agent's other outcomes
    rfl, rfl, rfl, -- no status
    fun _ _ h => Status.code_injective h⟩

end Sys2Proof.Machine
end
